-- ==== Sys2Proof/Word.lean ====
section
/-! DEFINITION. The word types of LDC-CORE (00_scope.md R5, R7): unsigned integers of a fixed width, bit 0 the
least significant. There is no signed quantity anywhere in this hardware. -/

namespace Sys2Proof

/-- `u8`: one byte of a byte sequence (R7). -/
abbrev Byte := BitVec 8

/-- `u32`: the register and bus data width `XLEN` (R4), and the word of the ChaCha20 and Salsa20 datapaths. -/
abbrev Word := BitVec 32

/-- `u64`: the word of the BLAKE2b datapath (R135). -/
abbrev DWord := BitVec 64

end Sys2Proof
end

