-- ==== Sys2Proof/Syntax.lean ====
section
/-! DEFINITION. The instructions of LDC-CORE: the 14 commands of 30_encoding.md R103, one constructor per row of
spec/opcode_table.json. A command is the device's only "instruction" (glossary of 00_scope.md); it reaches the device as
the word of a host write to `CMD`. -/

namespace Sys2Proof

/-- One command. The only operand a command word carries is the 8-bit immediate `ARG` = `w[15:8]` (R101, R102); it is
a field of the two commands that use it. Every other operand is implicit, read from the staging register the command's
rule names. Bits of `ARG` that a command does not use make its word illegal (R105): `Instr.wellFormed` checks them. -/
inductive Instr where
  /-- `NOP`, 0x00 (46_system.md R280). -/
  | nop
  /-- `ZEROIZE`, 0x01; `ARG[4:0]` is the engine mask (46_system.md R281). -/
  | zeroize (arg : Byte)
  /-- `CC_INIT`, 0x10 (41_chacha20.md R160). -/
  | ccInit
  /-- `CC_XOR`, 0x11 (41_chacha20.md R161). -/
  | ccXor
  /-- `CC_POLYKEY`, 0x13; `ARG[0]` is the flag `OPEN` (43_aead.md R210). -/
  | ccPolykey (arg : Byte)
  /-- `PL_INIT`, 0x20 (42_poly1305.md R180). -/
  | plInit
  /-- `PL_UPDATE`, 0x21 (42_poly1305.md R181). -/
  | plUpdate
  /-- `PL_FINISH`, 0x22 (42_poly1305.md R182). -/
  | plFinish
  /-- `PL_VERIFY`, 0x23 (42_poly1305.md R191). -/
  | plVerify
  /-- `B2_INIT`, 0x30 (45_blake2b.md R250). -/
  | b2Init
  /-- `B2_UPDATE`, 0x31 (45_blake2b.md R251). -/
  | b2Update
  /-- `B2_FINAL`, 0x32 (45_blake2b.md R252). -/
  | b2Final
  /-- `XS_INIT`, 0x40 (44_xsalsa20.md R230). -/
  | xsInit
  /-- `XS_XOR`, 0x41 (44_xsalsa20.md R231). -/
  | xsXor
  deriving DecidableEq, Repr

end Sys2Proof
end

