-- ==== Sys2Proof/WellFormed.lean ====
section
/-! DEFINITION. Which terms of `Instr` are commands: the bits of `ARG` that a command does not use are 0
(30_encoding.md R101, R105). -/

namespace Sys2Proof

/-- `ARG[7:5]` = 0, the check of `ZEROIZE` (R103, R105). -/
def zeroizeArgLegal (arg : Byte) : Bool := arg.extractLsb' 5 3 == 0#3

/-- `ARG[7:1]` = 0, the check of `CC_POLYKEY` (R103, R105). -/
def polykeyArgLegal (arg : Byte) : Bool := arg.extractLsb' 1 7 == 0#7

/-- The command's unused `ARG` bits are 0 (R105). A command without argument has no field to check. -/
def Instr.wellFormed : Instr → Bool
  | .nop => true
  | .zeroize arg => zeroizeArgLegal arg
  | .ccInit => true
  | .ccXor => true
  | .ccPolykey arg => polykeyArgLegal arg
  | .plInit => true
  | .plUpdate => true
  | .plFinish => true
  | .plVerify => true
  | .b2Init => true
  | .b2Update => true
  | .b2Final => true
  | .xsInit => true
  | .xsXor => true

end Sys2Proof
end

