-- ==== Sys2Proof/Decode.lean ====
section
/-! DEFINITION. Command words (30_encoding.md): the fields of format C (R101), the decoder (R103 to R106), total on
every 32-bit word and rejecting by name, then the encoder and the match/mask table of R103. -/

namespace Sys2Proof

/-- Why the decoder turns a word away. Every reason has the one effect `complete(E_ILLCMD)` (R104, R105); the names
say which rule made the word illegal. -/
inductive Reject where
  /-- `OPC` is none of the 14 values of R103 (R104). -/
  | unassignedOpcode (opc : Byte)
  /-- `w[31:16]` ≠ 0 (R105). -/
  | reservedBits (bits : BitVec 16)
  /-- an `ARG` bit is set that the command does not use (R105). -/
  | unusedArgBits (opc arg : Byte)
  deriving DecidableEq, Repr

/-- `OPC` = `w[7:0]` (R101). -/
def fieldOpc (w : Word) : Byte := w.extractLsb' 0 8

/-- `ARG` = `w[15:8]` (R101). -/
def fieldArg (w : Word) : Byte := w.extractLsb' 8 8

/-- The reserved bits `w[31:16]` (R101). -/
def fieldRsvd (w : Word) : BitVec 16 := w.extractLsb' 16 16

/-- The command an opcode selects (column `OPC` of R103). -/
def instrOf (opc arg : Byte) : Option Instr :=
  if opc = 0x00#8 then some .nop
  else if opc = 0x01#8 then some (.zeroize arg)
  else if opc = 0x10#8 then some .ccInit
  else if opc = 0x11#8 then some .ccXor
  else if opc = 0x13#8 then some (.ccPolykey arg)
  else if opc = 0x20#8 then some .plInit
  else if opc = 0x21#8 then some .plUpdate
  else if opc = 0x22#8 then some .plFinish
  else if opc = 0x23#8 then some .plVerify
  else if opc = 0x30#8 then some .b2Init
  else if opc = 0x31#8 then some .b2Update
  else if opc = 0x32#8 then some .b2Final
  else if opc = 0x40#8 then some .xsInit
  else if opc = 0x41#8 then some .xsXor
  else none

/-- The `ARG` bits a command uses (column `ARG` of R103). -/
def argMask : Instr → Byte
  | .nop => 0x00#8
  | .zeroize _ => 0x1F#8
  | .ccInit => 0x00#8
  | .ccXor => 0x00#8
  | .ccPolykey _ => 0x01#8
  | .plInit => 0x00#8
  | .plUpdate => 0x00#8
  | .plFinish => 0x00#8
  | .plVerify => 0x00#8
  | .b2Init => 0x00#8
  | .b2Update => 0x00#8
  | .b2Final => 0x00#8
  | .xsInit => 0x00#8
  | .xsXor => 0x00#8

/-- Decode a command word. "Legality is decided on the whole word before any operand is read" (R105). -/
def decode (w : Word) : Except Reject Instr :=
  if fieldRsvd w ≠ 0#16 then .error (.reservedBits (fieldRsvd w))
  else
    match instrOf (fieldOpc w) (fieldArg w) with
    | none => .error (.unassignedOpcode (fieldOpc w))
    | some i =>
      if fieldArg w &&& ~~~(argMask i) = 0#8 then .ok i
      else .error (.unusedArgBits (fieldOpc w) (fieldArg w))

/-- The opcode of a command (R103); `LASTOP` after it (R290). -/
def opcodeOf : Instr → Byte
  | .nop => 0x00#8
  | .zeroize _ => 0x01#8
  | .ccInit => 0x10#8
  | .ccXor => 0x11#8
  | .ccPolykey _ => 0x13#8
  | .plInit => 0x20#8
  | .plUpdate => 0x21#8
  | .plFinish => 0x22#8
  | .plVerify => 0x23#8
  | .b2Init => 0x30#8
  | .b2Update => 0x31#8
  | .b2Final => 0x32#8
  | .xsInit => 0x40#8
  | .xsXor => 0x41#8

/-- The `ARG` byte of a command; 0 where the command has none (R101). -/
def argOf : Instr → Byte
  | .nop => 0x00#8
  | .zeroize arg => arg
  | .ccInit => 0x00#8
  | .ccXor => 0x00#8
  | .ccPolykey arg => arg
  | .plInit => 0x00#8
  | .plUpdate => 0x00#8
  | .plFinish => 0x00#8
  | .plVerify => 0x00#8
  | .b2Init => 0x00#8
  | .b2Update => 0x00#8
  | .b2Final => 0x00#8
  | .xsInit => 0x00#8
  | .xsXor => 0x00#8

/-- The command word of a command: 16 reserved zero bits, `ARG`, `OPC` (R101). -/
def encode (i : Instr) : Word := (0#16 ++ argOf i) ++ opcodeOf i

/-- The mnemonic of a command, as R103 and spec/opcode_table.json have it. -/
def mnemonicOf : Instr → String
  | .nop => "NOP"
  | .zeroize _ => "ZEROIZE"
  | .ccInit => "CC_INIT"
  | .ccXor => "CC_XOR"
  | .ccPolykey _ => "CC_POLYKEY"
  | .plInit => "PL_INIT"
  | .plUpdate => "PL_UPDATE"
  | .plFinish => "PL_FINISH"
  | .plVerify => "PL_VERIFY"
  | .b2Init => "B2_INIT"
  | .b2Update => "B2_UPDATE"
  | .b2Final => "B2_FINAL"
  | .xsInit => "XS_INIT"
  | .xsXor => "XS_XOR"

/-- One row of the opcode map of R103: "a word `w` selects the command iff `w & mask == match`". -/
structure OpcodeRow where
  /-- the mnemonic of the row -/
  mnemonic : String
  /-- column `match` -/
  value : Word
  /-- column `mask` -/
  mask : Word
  deriving DecidableEq, Repr

/-- The complete opcode map (R103), as data: the decoder above is written without it. -/
def opcodeTable : List OpcodeRow :=
  [ ⟨"NOP", 0x00000000#32, 0xFFFFFFFF#32⟩,
    ⟨"ZEROIZE", 0x00000001#32, 0xFFFFE0FF#32⟩,
    ⟨"CC_INIT", 0x00000010#32, 0xFFFFFFFF#32⟩,
    ⟨"CC_XOR", 0x00000011#32, 0xFFFFFFFF#32⟩,
    ⟨"CC_POLYKEY", 0x00000013#32, 0xFFFFFEFF#32⟩,
    ⟨"PL_INIT", 0x00000020#32, 0xFFFFFFFF#32⟩,
    ⟨"PL_UPDATE", 0x00000021#32, 0xFFFFFFFF#32⟩,
    ⟨"PL_FINISH", 0x00000022#32, 0xFFFFFFFF#32⟩,
    ⟨"PL_VERIFY", 0x00000023#32, 0xFFFFFFFF#32⟩,
    ⟨"B2_INIT", 0x00000030#32, 0xFFFFFFFF#32⟩,
    ⟨"B2_UPDATE", 0x00000031#32, 0xFFFFFFFF#32⟩,
    ⟨"B2_FINAL", 0x00000032#32, 0xFFFFFFFF#32⟩,
    ⟨"XS_INIT", 0x00000040#32, 0xFFFFFFFF#32⟩,
    ⟨"XS_XOR", 0x00000041#32, 0xFFFFFFFF#32⟩ ]

/-- The row's selection condition (R103). -/
def OpcodeRow.selects (row : OpcodeRow) (w : Word) : Bool := w &&& row.mask == row.value

/-- The command word whose low `nbits` bits are those of `w`, every higher bit 0: one 32-bit bus word, bit 0 the least
significant (R100, R101). -/
def tableWord (nbits w : Nat) : Word := BitVec.ofNat 32 (w % 2 ^ nbits)

/-- The command the decoder reads from an opcode-table word (none where it rejects). -/
def decodeTableWord (nbits w : Nat) : Option Instr :=
  match decode (tableWord nbits w) with
  | .ok i => some i
  | .error _ => none

end Sys2Proof
end

