-- ==== Sys2Proof/Machine/State.lean ====
section
/-! DEFINITION. The state of LDC-CORE (10_state.md R20): the host-visible registers that have storage, the four engine
contexts, the authentication flags; beside them two fields of the model's own, the host's pending bus transactions and
the response to the latest one (assumption log 1). Plain data. -/

namespace Sys2Proof.Machine

/-- The completion codes of `RESULT.CODE` (60_exceptions.md R292). "No other value ever appears in `RESULT.CODE`." -/
inductive Code where
  /-- 0x00 -/
  | ok
  /-- 0x01: the decoder rejects the word (R104, R105) -/
  | eIllcmd
  /-- 0x02: the context is not in the required state -/
  | eState
  /-- 0x03: `cc.gate` = 1 (43_aead.md R211) -/
  | eGated
  /-- 0x04: `LEN` > 128 -/
  | eLen
  /-- 0x10: wrong key length -/
  | eKeylen
  /-- 0x11: wrong nonce length -/
  | eNoncelen
  /-- 0x12: wrong BLAKE2b output length -/
  | eOutlen
  /-- 0x13: wrong expected-tag length -/
  | eTaglen
  /-- 0x20: `TAG` ≠ `XTAG` -/
  | eAuth
  deriving DecidableEq, Repr

/-- What the outside world does to the device (00_scope.md R8): one bus transaction of the host, or reset. Offsets and
sizes are numbers, so that the accesses that end with `BusError` can be written too (20_memory.md R80). -/
inductive HostEvent where
  /-- `MemRead(off, size)` (20_memory.md R76) -/
  | read (off size : Nat)
  /-- `MemWrite(off, size, v)` (20_memory.md R77); a transaction of another size than 4 is discarded whatever its data -/
  | write (off size : Nat) (v : Word)
  /-- reset (70_reset_and_hazards.md R330) -/
  | reset
  deriving DecidableEq, Repr

/-- What the host got back from its latest bus transaction. The MODEL's own view of the bus response
(20_memory.md R76, R77, R80), not a register of the device. -/
inductive Response where
  /-- no transaction has completed since reset -/
  | none
  /-- a read returned this word -/
  | data (v : Word)
  /-- a write completed -/
  | written
  /-- the transaction ended with `BusError(off)`: "a read returns no data" (R80) -/
  | busError (off : Nat)
  deriving DecidableEq, Repr

/-- The ChaCha20 context `cc` (10_state.md R43). -/
structure CC where
  /-- the context holds a key, nonce and counter -/
  valid : Bool
  /-- `CC_XOR` is blocked (43_aead.md R211) -/
  gate : Bool
  /-- the input state of the block function; `st[12]` is the block counter -/
  st : Vector Word 16
  /-- the block buffer: the most recently generated keystream block -/
  blk : Vector Byte 64
  /-- unconsumed bytes at the end of `blk`, 0 to 64 -/
  avail : Nat
  deriving DecidableEq, Repr

/-- The Poly1305 context `pl` (10_state.md R44). -/
structure PL where
  /-- keyed: accepts `PL_UPDATE` and `PL_FINISH` -/
  valid : Bool
  /-- `TAG` holds a finished tag -/
  done : Bool
  /-- the key came from `CC_POLYKEY` (43_aead.md R212) -/
  link : Bool
  /-- the clamped multiplier, below 2^124 -/
  r : BitVec 128
  /-- the final addend -/
  pad : BitVec 128
  /-- the accumulator, as its canonical residue below 2^130 − 5 -/
  h : Nat
  /-- leftover bytes of a partial block -/
  lbuf : Vector Byte 16
  /-- number of valid bytes in `lbuf`, 0 to 15 -/
  lfill : Nat
  deriving DecidableEq, Repr

/-- The BLAKE2b context `b2` (10_state.md R45). -/
structure B2 where
  /-- initialised: accepts `B2_UPDATE` and `B2_FINAL` -/
  valid : Bool
  /-- `DIGEST` holds a finished digest -/
  done : Bool
  /-- the chaining value: eight words (90_conflicts.md C1) -/
  h : Vector DWord 8
  /-- the byte counter: 128 bits (90_conflicts.md C2) -/
  t : BitVec 128
  /-- the input buffer -/
  buf : Vector Byte 128
  /-- number of valid bytes in `buf`, 0 to 128 -/
  fill : Nat
  /-- the configured digest length, 0 to 64 -/
  outlen : Nat
  deriving DecidableEq, Repr

/-- The XSalsa20 context `xs` (10_state.md R46). -/
structure XS where
  /-- the context holds a derived key, nonce and counter -/
  valid : Bool
  /-- the input state of the Salsa20 block function; words 8 (low) and 9 (high) are the block counter -/
  st : Vector Word 16
  /-- the block buffer -/
  blk : Vector Byte 64
  /-- unconsumed bytes at the end of `blk`, 0 to 64 -/
  avail : Nat
  deriving DecidableEq, Repr

/-- The authentication flags `auth` (10_state.md R47). -/
structure Auth where
  /-- the most recent `PL_VERIFY` on the current context found the tags equal -/
  ok : Bool
  /-- the most recent `PL_VERIFY` found the tags different -/
  fail : Bool
  deriving DecidableEq, Repr

/-- The whole state. `ID` and `CMD` have no storage (R21, R22); `STATUS`, `CC_CTR`, `XS_CTRL`, `XS_CTRH` and `CURSOR` are
live views of the contexts (R24, R32 to R34). -/
structure State where
  /-- `RESULT.CODE` (R23) -/
  code : Code
  /-- `RESULT.LASTOP` (R23) -/
  lastop : Byte
  /-- `STICKY[5:0]`; bits 31:6 have no storage (R25) -/
  sticky : BitVec 6
  /-- `LEN[7:0]` (R26) -/
  len : Byte
  /-- `KLEN[7:0]` (R27) -/
  klen : Byte
  /-- `NLEN[7:0]` (R28) -/
  nlen : Byte
  /-- `OUTLEN[7:0]` (R29) -/
  outlen : Byte
  /-- `XTLEN[7:0]` (R30) -/
  xtlen : Byte
  /-- `CTR` (R31) -/
  ctr : Word
  /-- `KEY[0..15]` (R35) -/
  key : Vector Word 16
  /-- `NONCE[0..5]` (R36) -/
  nonce : Vector Word 6
  /-- `XTAG[0..3]` (R37) -/
  xtag : Vector Word 4
  /-- `TAG[0..3]` (R38) -/
  tag : Vector Word 4
  /-- `DIGEST[0..15]` (R39) -/
  digest : Vector Word 16
  /-- `BUF`, as its 128 bytes `BUFB(0..127)`; word `i` is `le32` of bytes `4i` to `4i+3` (R40, R72, R73) -/
  buf : Vector Byte 128
  /-- the ChaCha20 context -/
  cc : CC
  /-- the Poly1305 context -/
  pl : PL
  /-- the BLAKE2b context -/
  b2 : B2
  /-- the XSalsa20 context -/
  xs : XS
  /-- the authentication flags -/
  auth : Auth
  /-- MODEL's own: the host's transactions still to come, in the host's program order (R83) -/
  pending : List HostEvent
  /-- MODEL's own: what the latest transaction returned to the host -/
  response : Response
  deriving DecidableEq, Repr

/-- Why a machine stops with a fault. LDC-CORE has no such stop: "No input makes the device hang, and no rule of this
spec is undefined ... The model's step function is therefore total" (00_scope.md R10). A `BusError` and every
completion code are next states (assumption log 2). The type has no constructor; nothing raises it: safe. -/
inductive Fault where
  deriving DecidableEq, Repr

/-- Why the model has no meaning for an instruction. -/
inductive Refusal where
  /-- An instruction with no meaning yet. Raised by an arm of `exec` only; no arm raises it now. Safe: the model stops. -/
  | notModelled (mnemonic : String)
  deriving DecidableEq, Repr

/-- Every field of `cc` zero: after reset and after `ZeroizeCC` (R51, 46_system.md R282). -/
def CC.zero : CC :=
  { valid := false, gate := false, st := Vector.replicate 16 0, blk := Vector.replicate 64 0, avail := 0 }

/-- Every field of `pl` zero (R51, 46_system.md R283). -/
def PL.zero : PL :=
  { valid := false, done := false, link := false, r := 0, pad := 0, h := 0, lbuf := Vector.replicate 16 0, lfill := 0 }

/-- Every field of `b2` zero (R51, 46_system.md R284). -/
def B2.zero : B2 :=
  { valid := false, done := false, h := Vector.replicate 8 0, t := 0, buf := Vector.replicate 128 0, fill := 0, outlen := 0 }

/-- Every field of `xs` zero (R51, 46_system.md R285). -/
def XS.zero : XS :=
  { valid := false, st := Vector.replicate 16 0, blk := Vector.replicate 64 0, avail := 0 }

/-- Both authentication flags 0 (R47, R51). -/
def Auth.zero : Auth := { ok := false, fail := false }

/-- The machine right after reset (10_state.md R51, 70_reset_and_hazards.md R330): "Nothing is unspecified". No
transaction is pending and none has completed (assumption log 1, 3). -/
def State.reset : State :=
  { code := .ok, lastop := 0, sticky := 0, len := 0, klen := 0, nlen := 0, outlen := 0, xtlen := 0, ctr := 0,
    key := Vector.replicate 16 0, nonce := Vector.replicate 6 0, xtag := Vector.replicate 4 0,
    tag := Vector.replicate 4 0, digest := Vector.replicate 16 0, buf := Vector.replicate 128 0,
    cc := CC.zero, pl := PL.zero, b2 := B2.zero, xs := XS.zero, auth := Auth.zero,
    pending := [], response := .none }

end Sys2Proof.Machine
end

