-- ==== Sys2Proof/Machine/Flags.lean ====
section
/-! DEFINITION. The status words: `RESULT` (10_state.md R23), `STATUS` (R24), `STICKY` and its class bits (R25,
60_exceptions.md R290, R291) and `CURSOR` (R34). There are no arithmetic flags (R49). -/

namespace Sys2Proof.Machine

/-- The byte of a completion code (60_exceptions.md R292). -/
def codeByte : Code → Byte
  | .ok => 0x00#8
  | .eIllcmd => 0x01#8
  | .eState => 0x02#8
  | .eGated => 0x03#8
  | .eLen => 0x04#8
  | .eKeylen => 0x10#8
  | .eNoncelen => 0x11#8
  | .eOutlen => 0x12#8
  | .eTaglen => 0x13#8
  | .eAuth => 0x20#8

/-- `STICKY.USEERR`, bit 0 (R25). -/
def stickyUseErr : BitVec 6 := 0x01#6
/-- `STICKY.CFGERR`, bit 1 (R25). -/
def stickyCfgErr : BitVec 6 := 0x02#6
/-- `STICKY.AUTHERR`, bit 2 (R25). -/
def stickyAuthErr : BitVec 6 := 0x04#6
/-- `STICKY.BUSERR`, bit 3 (R25). -/
def stickyBusErr : BitVec 6 := 0x08#6
/-- `STICKY.CC_WRAP`, bit 4 (R25). -/
def stickyCcWrap : BitVec 6 := 0x10#6
/-- `STICKY.XS_WRAP`, bit 5 (R25). -/
def stickyXsWrap : BitVec 6 := 0x20#6

/-- The sticky bit a completion with this code sets (R290); none for `OK`. -/
def codeSticky : Code → BitVec 6
  | .ok => 0#6
  | .eIllcmd => stickyUseErr
  | .eState => stickyUseErr
  | .eGated => stickyUseErr
  | .eLen => stickyUseErr
  | .eKeylen => stickyCfgErr
  | .eNoncelen => stickyCfgErr
  | .eOutlen => stickyCfgErr
  | .eTaglen => stickyCfgErr
  | .eAuth => stickyAuthErr

/-- `RESULT` = `{16'b0, LASTOP, CODE}` (R23). -/
def resultWord (s : State) : Word := (0#16 ++ s.lastop) ++ codeByte s.code

/-- `STATUS`: bit 0 `CC_VALID`, 1 `CC_GATE`, 2 `PL_VALID`, 3 `PL_DONE`, 4 `PL_LINK`, 5 `AUTH_OK`, 6 `AUTH_FAIL`,
7 `B2_VALID`, 8 `B2_DONE`, 9 `XS_VALID`, 31:10 zero (R24). -/
def statusWord (s : State) : Word :=
  0#22 ++ BitVec.ofBool s.xs.valid ++ BitVec.ofBool s.b2.done ++ BitVec.ofBool s.b2.valid ++ BitVec.ofBool s.auth.fail
    ++ BitVec.ofBool s.auth.ok ++ BitVec.ofBool s.pl.link ++ BitVec.ofBool s.pl.done ++ BitVec.ofBool s.pl.valid
    ++ BitVec.ofBool s.cc.gate ++ BitVec.ofBool s.cc.valid

/-- `STICKY`: bits 31:6 read 0 (R25). -/
def stickyWord (s : State) : Word := 0#26 ++ s.sticky

/-- A host write of `v` to `STICKY` clears each bit whose written value is 1: `STICKY & ~v & 0x3F` (R25, R77). -/
def stickyClear (old : BitVec 6) (v : Word) : BitVec 6 := old &&& ~~~(v.extractLsb' 0 6)

/-- `CURSOR` = `{b2.fill[7:0], 3'b0, pl.lfill[4:0], 1'b0, xs.avail[6:0], 1'b0, cc.avail[6:0]}` (R34). -/
def cursorWord (s : State) : Word :=
  BitVec.ofNat 8 s.b2.fill ++ 0#3 ++ BitVec.ofNat 5 s.pl.lfill ++ 0#1 ++ BitVec.ofNat 7 s.xs.avail ++ 0#1
    ++ BitVec.ofNat 7 s.cc.avail

end Sys2Proof.Machine
end

