-- ==== Sys2Proof/Config.lean ====
section
/-! DEFINITION. The parameters of 00_scope.md R4 that the spec fixes. The parameters it leaves open (`BASE`, `LAT`,
`QR_UNITS`, `G_UNITS`; 93_implementation_defined.md section 3) are not here: no rule depends on them, and the model
has no time and no absolute addresses (assumption log 6, 12). -/

namespace Sys2Proof.Config

/-- `ID_VALUE` (R4, R21). -/
def idValue : Word := 0x4C444331#32

/-- Size of the register window in bytes: `AW` = 9 bits of offset (R4, R70). -/
def windowBytes : Nat := 512

/-- `BUFSZ`, the size of the data buffer `BUF` in bytes, and the largest legal `LEN` (R4, R26). -/
def bufBytes : Nat := 128

/-- Key length of ChaCha20, XSalsa20 and Poly1305 in bytes (R4, R27). -/
def keyBytes : Nat := 32

/-- Nonce length of ChaCha20 in bytes (R4, R28). -/
def ccNonceBytes : Nat := 12

/-- Nonce length of XSalsa20 in bytes (R4, R28). -/
def xsNonceBytes : Nat := 24

/-- Poly1305 tag length in bytes (R4, R30). -/
def tagBytes : Nat := 16

/-- Longest BLAKE2b digest and longest BLAKE2b key in bytes (R4, R27, R29). -/
def b2MaxBytes : Nat := 64

/-- Double rounds of ChaCha20 and of Salsa20: 20 rounds (R4). -/
def doubleRounds : Nat := 10

/-- Rounds of one BLAKE2b compression (R4). -/
def b2Rounds : Nat := 12

/-- The Poly1305 prime `p` = 2^130 − 5 (R4, 40_primitives.md section 4). -/
def polyP : Nat := 2 ^ 130 - 5

end Sys2Proof.Config
end

