-- ==== Sys2Proof/Machine/Primitives.lean ====
section
/-! DEFINITION. The shared primitives of 40_primitives.md: word arithmetic, little-endian packing, the ChaCha20 and
Salsa20 quarter-rounds and rounds, the BLAKE2b tables and mixing function. Pure and total. -/

namespace Sys2Proof.Machine

/-! ## Integer laws -/

/-- `add32(a, b) = (a + b) mod 2^32` (R130). -/
def add32 (a b : Word) : Word := a + b

/-- `rotl32(x, n)`, for a constant 1 ≤ n ≤ 31 (R131). -/
def rotl32 (x : Word) (n : Nat) : Word := (x <<< n) ||| (x >>> (32 - n))

/-- `add64(a, b) = (a + b) mod 2^64` (R135). -/
def add64 (a b : DWord) : DWord := a + b

/-- `rotr64(x, n)`, for a constant 1 ≤ n ≤ 63 (R136). -/
def rotr64 (x : DWord) (n : Nat) : DWord := (x >>> n) ||| (x <<< (64 - n))

/-- `le32`: four bytes as a word, the first byte least significant (R132). -/
def le32 (b0 b1 b2 b3 : Byte) : Word := b3 ++ b2 ++ b1 ++ b0

/-- Byte `j` of a word, 0 ≤ j ≤ 3: bits `[8j+7 : 8j]` (R72, R132). -/
def wordByte (w : Word) (j : Nat) : Byte := w.extractLsb' (8 * j) 8

/-- `st32`, the inverse of `le32` (R132). -/
def st32 (w : Word) : List Byte := [wordByte w 0, wordByte w 1, wordByte w 2, wordByte w 3]

/-- `le64`: eight bytes as a 64-bit word, the first byte least significant (R133). -/
def le64 (b0 b1 b2 b3 b4 b5 b6 b7 : Byte) : DWord := b7 ++ b6 ++ b5 ++ b4 ++ b3 ++ b2 ++ b1 ++ b0

/-- Byte `j` of a 64-bit word, 0 ≤ j ≤ 7. -/
def dwordByte (w : DWord) (j : Nat) : Byte := w.extractLsb' (8 * j) 8

/-- `st64`, the inverse of `le64` (R133). -/
def st64 (w : DWord) : List Byte :=
  [dwordByte w 0, dwordByte w 1, dwordByte w 2, dwordByte w 3, dwordByte w 4, dwordByte w 5, dwordByte w 6, dwordByte w 7]

/-- `leint`: the little-endian integer of a byte sequence of any length (R134). -/
def leint : List Byte → Nat
  | [] => 0
  | b :: bs => b.toNat + 256 * leint bs

/-- `stint_n(v)`: the `n`-byte little-endian sequence of `v mod 2^(8n)` (R134). -/
def stint : Nat → Nat → List Byte
  | 0, _ => []
  | n + 1, v => BitVec.ofNat 8 v :: stint n (v / 256)

/-- `n` bytes of a byte sequence given by its bytes, as a list. -/
def bytesOf (n : Nat) (f : Nat → Byte) : List Byte := (List.range n).map f

/-- `f` applied `n` times. -/
def applyTimes {α : Type} (f : α → α) : Nat → α → α
  | 0, x => x
  | n + 1, x => f (applyTimes f n x)

/-- `for i in 0 .. n−1: x <- body i x` (the loops of R161, R181, R231, R251; notation of 00_scope.md R6). -/
def forUpTo {α : Type} (body : Nat → α → α) : Nat → α → α
  | 0, x => x
  | n + 1, x => body n (forUpTo body n x)

/-- The sigma constants `C0..C3`: `expand 32-byte k` packed by `le32` (R138). -/
def sigmaC0 : Word := 0x61707865#32
/-- `C1` (R138). -/
def sigmaC1 : Word := 0x3320646E#32
/-- `C2` (R138). -/
def sigmaC2 : Word := 0x79622D32#32
/-- `C3` (R138). -/
def sigmaC3 : Word := 0x6B206574#32

/-! ## ChaCha20 -/

/-- The quarter-round `CCQR(x, a, b, c, d)`; each line uses the results of the lines before it (R139). -/
def ccqr (x : Vector Word 16) (a b c d : Fin 16) : Vector Word 16 :=
  let x := x.set a (add32 x[a] x[b])
  let x := x.set d (rotl32 (x[d] ^^^ x[a]) 16)
  let x := x.set c (add32 x[c] x[d])
  let x := x.set b (rotl32 (x[b] ^^^ x[c]) 12)
  let x := x.set a (add32 x[a] x[b])
  let x := x.set d (rotl32 (x[d] ^^^ x[a]) 8)
  let x := x.set c (add32 x[c] x[d])
  x.set b (rotl32 (x[b] ^^^ x[c]) 7)

/-- The column round (R140). -/
def ccColumnRound (x : Vector Word 16) : Vector Word 16 :=
  ccqr (ccqr (ccqr (ccqr x 0 4 8 12) 1 5 9 13) 2 6 10 14) 3 7 11 15

/-- The diagonal round (R141). -/
def ccDiagonalRound (x : Vector Word 16) : Vector Word 16 :=
  ccqr (ccqr (ccqr (ccqr x 0 5 10 15) 1 6 11 12) 2 7 8 13) 3 4 9 14

/-- The double round `CCDR(x)`: column, then diagonal (R142). -/
def ccdr (x : Vector Word 16) : Vector Word 16 := ccDiagonalRound (ccColumnRound x)

/-! ## Salsa20 -/

/-- The quarter-round `SAQR(x, a, b, c, d)` (R143). -/
def saqr (x : Vector Word 16) (a b c d : Fin 16) : Vector Word 16 :=
  let x := x.set b (x[b] ^^^ rotl32 (add32 x[a] x[d]) 7)
  let x := x.set c (x[c] ^^^ rotl32 (add32 x[b] x[a]) 9)
  let x := x.set d (x[d] ^^^ rotl32 (add32 x[c] x[b]) 13)
  x.set a (x[a] ^^^ rotl32 (add32 x[d] x[c]) 18)

/-- The column round (R144). -/
def saColumnRound (x : Vector Word 16) : Vector Word 16 :=
  saqr (saqr (saqr (saqr x 0 4 8 12) 5 9 13 1) 10 14 2 6) 15 3 7 11

/-- The row round (R145). -/
def saRowRound (x : Vector Word 16) : Vector Word 16 :=
  saqr (saqr (saqr (saqr x 0 1 2 3) 5 6 7 4) 10 11 8 9) 15 12 13 14

/-- The double round `SADR(x)`: column, then row (R146). -/
def sadr (x : Vector Word 16) : Vector Word 16 := saRowRound (saColumnRound x)

/-! ## What the two stream ciphers share -/

/-- The feed-forward: the word-by-word addition of the original state (R163, R235). -/
def feedForward (x st : Vector Word 16) : Vector Word 16 := Vector.ofFn fun i => add32 x[i] st[i]

/-- `st32(y[0]) ‖ … ‖ st32(y[15])`: byte `4i + j` is bits `[8j+7 : 8j]` of `y[i]` (R163, R235). -/
def blockBytes (y : Vector Word 16) : Vector Byte 64 := Vector.ofFn fun k => wordByte y[k.val / 4] (k.val % 4)

/-! ## BLAKE2b -/

/-- The initialisation vector `IV[0..7]` (R152). -/
def b2IV : Vector DWord 8 :=
  #v[0x6A09E667F3BCC908#64, 0xBB67AE8584CAA73B#64, 0x3C6EF372FE94F82B#64, 0xA54FF53A5F1D36F1#64,
     0x510E527FADE682D1#64, 0x9B05688C2B3E6C1F#64, 0x1F83D9ABFB41BD6B#64, 0x5BE0CD19137E2179#64]

/-- The message schedule `SIGMA[0..9][0..15]` (R153). -/
def b2Sigma : Vector (Vector (Fin 16) 16) 10 :=
  #v[#v[ 0,  1,  2,  3,  4,  5,  6,  7,  8,  9, 10, 11, 12, 13, 14, 15],
     #v[14, 10,  4,  8,  9, 15, 13,  6,  1, 12,  0,  2, 11,  7,  5,  3],
     #v[11,  8, 12,  0,  5,  2, 15, 13, 10, 14,  3,  6,  7,  1,  9,  4],
     #v[ 7,  9,  3,  1, 13, 12, 11, 14,  2,  6,  5, 10,  4,  0, 15,  8],
     #v[ 9,  0,  5,  7,  2,  4, 10, 15, 14,  1, 11, 12,  6,  8,  3, 13],
     #v[ 2, 12,  6, 10,  0, 11,  8,  3,  4, 13,  7,  5, 15, 14,  1,  9],
     #v[12,  5,  1, 15, 14, 13,  4, 10,  0,  7,  6,  3,  9,  2,  8, 11],
     #v[13, 11,  7, 14, 12,  1,  3,  9,  5,  0, 15,  4,  8,  6,  2, 10],
     #v[ 6, 15, 14,  9, 11,  3,  0,  8, 12,  2, 13,  7,  1,  4, 10,  5],
     #v[10,  2,  8,  4,  7,  6,  1,  5, 15, 11,  9, 14,  3, 12, 13,  0]]

/-- Row `r mod 10` of `SIGMA`, the row round `r` uses (R153). -/
def b2SigmaRow (r : Nat) : Vector (Fin 16) 16 := b2Sigma[r % 10]'(Nat.mod_lt r (by decide))

/-- The mixing function `G(v, a, b, c, d, x, y)` (R154). -/
def b2G (v : Vector DWord 16) (a b c d : Fin 16) (x y : DWord) : Vector DWord 16 :=
  let v := v.set a (add64 (add64 v[a] v[b]) x)
  let v := v.set d (rotr64 (v[d] ^^^ v[a]) 32)
  let v := v.set c (add64 v[c] v[d])
  let v := v.set b (rotr64 (v[b] ^^^ v[c]) 24)
  let v := v.set a (add64 (add64 v[a] v[b]) y)
  let v := v.set d (rotr64 (v[d] ^^^ v[a]) 16)
  let v := v.set c (add64 v[c] v[d])
  v.set b (rotr64 (v[b] ^^^ v[c]) 63)

/-- The column half of a round: the first four calls of G (R155). -/
def b2Columns (v m : Vector DWord 16) (s : Vector (Fin 16) 16) : Vector DWord 16 :=
  let v := b2G v 0 4 8 12 m[s[0]] m[s[1]]
  let v := b2G v 1 5 9 13 m[s[2]] m[s[3]]
  let v := b2G v 2 6 10 14 m[s[4]] m[s[5]]
  b2G v 3 7 11 15 m[s[6]] m[s[7]]

/-- The diagonal half of a round: the last four calls of G (R155). -/
def b2Diagonals (v m : Vector DWord 16) (s : Vector (Fin 16) 16) : Vector DWord 16 :=
  let v := b2G v 0 5 10 15 m[s[8]] m[s[9]]
  let v := b2G v 1 6 11 12 m[s[10]] m[s[11]]
  let v := b2G v 2 7 8 13 m[s[12]] m[s[13]]
  b2G v 3 4 9 14 m[s[14]] m[s[15]]

/-- The round `B2ROUND(v, m, r)` (R155). -/
def b2Round (m : Vector DWord 16) (r : Nat) (v : Vector DWord 16) : Vector DWord 16 :=
  b2Diagonals (b2Columns v m (b2SigmaRow r)) m (b2SigmaRow r)

end Sys2Proof.Machine
end

