-- ==== Sys2Proof/Machine/Operands.lean ====
section
/-! DEFINITION. The operand forms (30_encoding.md R102, 46_system.md R271): the bits of `ARG`, the length registers, the
byte views of the register arrays (20_memory.md R72, R73), and the registers of the window with their offsets
(10_state.md section 2, R71). -/

namespace Sys2Proof.Machine

/-! ## `ARG` -/

/-- `ARG[0]` of `CC_POLYKEY`, the flag `OPEN` (R102, R210). -/
def argOpen (arg : Byte) : Bool := arg.getLsbD 0

/-- `ARG[k]` of `ZEROIZE`, one mask bit: 0 `CC`, 1 `PL`, 2 `B2`, 3 `XS`, 4 `STAGE` (R281). -/
def argMaskBit (arg : Byte) (k : Nat) : Bool := arg.getLsbD k

/-! ## Byte views -/

/-- Byte `j` of a register array: bits `[8(j mod 4)+7 : 8(j mod 4)]` of word `j div 4` (R72); 0 past its end. -/
def arrayByte {n : Nat} (a : Vector Word n) (j : Nat) : Byte := wordByte (a.getD (j / 4) 0) (j % 4)

/-- `KEYB(j)`, 0 ≤ j ≤ 63 (R73). -/
def keyB (s : State) (j : Nat) : Byte := arrayByte s.key j
/-- `NONCEB(j)`, 0 ≤ j ≤ 23 (R73). -/
def nonceB (s : State) (j : Nat) : Byte := arrayByte s.nonce j
/-- `XTAGB(j)`, 0 ≤ j ≤ 15 (R73). -/
def xtagB (s : State) (j : Nat) : Byte := arrayByte s.xtag j
/-- `TAGB(j)`, 0 ≤ j ≤ 15 (R73). -/
def tagB (s : State) (j : Nat) : Byte := arrayByte s.tag j
/-- `DIGESTB(j)`, 0 ≤ j ≤ 63 (R73). -/
def digestB (s : State) (j : Nat) : Byte := arrayByte s.digest j

/-- `BUFB(i)`, 0 ≤ i ≤ 127 (R73); 0 past the end. -/
def bufB (s : State) (i : Nat) : Byte := s.buf.getD i 0

/-- The device write `BUFB(i) <- b` (R73). -/
def setBufB (s : State) (i : Nat) (b : Byte) : State := { s with buf := s.buf.setIfInBounds i b }

/-- Word `i` of `BUF`: `le32` of bytes `4i` to `4i+3` (R72). -/
def bufWord (s : State) (i : Nat) : Word :=
  le32 (bufB s (4 * i)) (bufB s (4 * i + 1)) (bufB s (4 * i + 2)) (bufB s (4 * i + 3))

/-- A host write of word `i` of `BUF` (R72, R77). -/
def setBufWord (s : State) (i : Nat) (v : Word) : State :=
  setBufB (setBufB (setBufB (setBufB s (4 * i) (wordByte v 0)) (4 * i + 1) (wordByte v 1)) (4 * i + 2) (wordByte v 2))
    (4 * i + 3) (wordByte v 3)

/-- A register array of `n` words from the bytes of a byte sequence (R72). -/
def packWords (n : Nat) (f : Nat → Byte) : Vector Word n :=
  Vector.ofFn fun i => le32 (f (4 * i.val)) (f (4 * i.val + 1)) (f (4 * i.val + 2)) (f (4 * i.val + 3))

/-- `KEY[0..7]`, the words of a 32-byte key (R35). -/
def keyWords (s : State) : Vector Word 8 := Vector.ofFn fun i => s.key[i.val]

/-! ## The registers of the window -/

/-- The registers of the window (table of 10_state.md section 2). -/
inductive Reg where
  | id | cmd | result | status | sticky | len | klen | nlen | outlen | xtlen | ctr | ccCtr | xsCtrl | xsCtrh | cursor
  | key (i : Fin 16) | nonce (i : Fin 6) | xtag (i : Fin 4) | tag (i : Fin 4) | digest (i : Fin 16) | buf (i : Fin 32)
  deriving DecidableEq, Repr

/-- The byte offset of a register in the window (10_state.md section 2): "Word `i` of an array register `A` based at
offset `B` is at offset `B + 4*i`." -/
def regOffset : Reg → Nat
  | .id => 0x000 | .cmd => 0x004 | .result => 0x008 | .status => 0x00C | .sticky => 0x010
  | .len => 0x014 | .klen => 0x018 | .nlen => 0x01C | .outlen => 0x020 | .xtlen => 0x024
  | .ctr => 0x028 | .ccCtr => 0x02C | .xsCtrl => 0x030 | .xsCtrh => 0x034 | .cursor => 0x038
  | .key i => 0x040 + 4 * i.val | .nonce i => 0x080 + 4 * i.val | .xtag i => 0x0A0 + 4 * i.val
  | .tag i => 0x0B0 + 4 * i.val | .digest i => 0x0C0 + 4 * i.val | .buf i => 0x100 + 4 * i.val

/-- The register at an aligned offset: `none` at a hole and outside the window (R42, R71, R80). -/
def regAt (off : Nat) : Option Reg :=
  if off % 4 ≠ 0 then none
  else if off = 0x000 then some .id
  else if off = 0x004 then some .cmd
  else if off = 0x008 then some .result
  else if off = 0x00C then some .status
  else if off = 0x010 then some .sticky
  else if off = 0x014 then some .len
  else if off = 0x018 then some .klen
  else if off = 0x01C then some .nlen
  else if off = 0x020 then some .outlen
  else if off = 0x024 then some .xtlen
  else if off = 0x028 then some .ctr
  else if off = 0x02C then some .ccCtr
  else if off = 0x030 then some .xsCtrl
  else if off = 0x034 then some .xsCtrh
  else if off = 0x038 then some .cursor
  else if h : 0x040 ≤ off ∧ off < 0x080 then some (.key ⟨(off - 0x040) / 4, by omega⟩)
  else if h : 0x080 ≤ off ∧ off < 0x098 then some (.nonce ⟨(off - 0x080) / 4, by omega⟩)
  else if h : 0x0A0 ≤ off ∧ off < 0x0B0 then some (.xtag ⟨(off - 0x0A0) / 4, by omega⟩)
  else if h : 0x0B0 ≤ off ∧ off < 0x0C0 then some (.tag ⟨(off - 0x0B0) / 4, by omega⟩)
  else if h : 0x0C0 ≤ off ∧ off < 0x100 then some (.digest ⟨(off - 0x0C0) / 4, by omega⟩)
  else if h : 0x100 ≤ off ∧ off < 0x180 then some (.buf ⟨(off - 0x100) / 4, by omega⟩)
  else none

end Sys2Proof.Machine
end

