-- ==== Sys2Proof/Machine/Ops.lean ====
section
/-! DEFINITION. The named operations the meanings share: completion, the trap-entry analogue of this hardware
(60_exceptions.md R290), the zeroisation functions (46_system.md R282 to R286), and the register reads, register writes
and bus errors of the window (20_memory.md R76, R77, R80). -/

namespace Sys2Proof.Machine

/-! ## Completion -/

/-- `complete(code)`, "the only way a command ends": `RESULT` is written with `LASTOP` = `opc` and `CODE` = `c`, the sticky
bit of the code's class is set, and "Nothing else happens at completion" (R290). There is no return from it: "after
`complete`, the device is idle and accepts any command" (R298). -/
def complete (opc : Byte) (c : Code) (s : State) : State :=
  { s with code := c, lastop := opc, sticky := s.sticky ||| codeSticky c }

/-- The end of a command's meaning: `complete(code)`, and control is with the host again (R290). -/
def endWith (opc : Byte) (c : Code) (s : State) : Host.Outcome State Fault Refusal := .next (complete opc c s)

/-! ## Zeroisation -/

/-- `ZeroizeCC()`: the whole context `cc`, and `pl.link` (R282). -/
def zeroizeCC (s : State) : State := { s with cc := CC.zero, pl := { s.pl with link := false } }

/-- `ZeroizePL()`: the whole context `pl`, `TAG` and the authentication flags (R283). -/
def zeroizePL (s : State) : State := { s with pl := PL.zero, tag := Vector.replicate 4 0, auth := Auth.zero }

/-- `ZeroizeB2()`: the whole context `b2` and `DIGEST` (R284). -/
def zeroizeB2 (s : State) : State := { s with b2 := B2.zero, digest := Vector.replicate 16 0 }

/-- `ZeroizeXS()`: the whole context `xs` (R285). -/
def zeroizeXS (s : State) : State := { s with xs := XS.zero }

/-- `ZeroizeStage()`: every host-writable register but `STICKY` (R286). -/
def zeroizeStage (s : State) : State :=
  { s with
    key := Vector.replicate 16 0, nonce := Vector.replicate 6 0, xtag := Vector.replicate 4 0,
    buf := Vector.replicate 128 0, len := 0, klen := 0, nlen := 0, outlen := 0, xtlen := 0, ctr := 0 }

/-- `KEY[0..15] <- 0`, done by every command that reads `KEY`, whatever its completion code (R35). -/
def clearKey (s : State) : State := { s with key := Vector.replicate 16 0 }

/-! ## The bus -/

/-- The value a host read of a register returns (R76): 0 for `CMD` and `KEY`, the live views, else the stored value. -/
def regRead (s : State) : Reg → Word
  | .id => Config.idValue
  | .cmd => 0#32
  | .result => resultWord s
  | .status => statusWord s
  | .sticky => stickyWord s
  | .len => s.len.zeroExtend 32
  | .klen => s.klen.zeroExtend 32
  | .nlen => s.nlen.zeroExtend 32
  | .outlen => s.outlen.zeroExtend 32
  | .xtlen => s.xtlen.zeroExtend 32
  | .ctr => s.ctr
  | .ccCtr => s.cc.st[12]
  | .xsCtrl => s.xs.st[8]
  | .xsCtrh => s.xs.st[9]
  | .cursor => cursorWord s
  | .key _ => 0#32
  | .nonce i => s.nonce[i]
  | .xtag i => s.xtag[i]
  | .tag i => s.tag[i]
  | .digest i => s.digest[i]
  | .buf i => bufWord s i.val

/-- What a host write of `v` does to a register other than `CMD` (R77): the length registers keep `v[7:0]`, `STICKY` is
cleared by ones, and "A write to a read-only register is silently ignored". `CMD` runs a command instead
(Machine/Bus.lean) and stores nothing (R22). -/
def regWrite (s : State) (v : Word) : Reg → State
  | .sticky => { s with sticky := stickyClear s.sticky v }
  | .len => { s with len := v.extractLsb' 0 8 }
  | .klen => { s with klen := v.extractLsb' 0 8 }
  | .nlen => { s with nlen := v.extractLsb' 0 8 }
  | .outlen => { s with outlen := v.extractLsb' 0 8 }
  | .xtlen => { s with xtlen := v.extractLsb' 0 8 }
  | .ctr => { s with ctr := v }
  | .key i => { s with key := s.key.set i v }
  | .nonce i => { s with nonce := s.nonce.set i v }
  | .xtag i => { s with xtag := s.xtag.set i v }
  | .buf i => setBufWord s i.val v
  | .id => s
  | .cmd => s
  | .result => s
  | .status => s
  | .ccCtr => s
  | .xsCtrl => s
  | .xsCtrh => s
  | .cursor => s
  | .tag _ => s
  | .digest _ => s

/-- The host has its answer `r`. -/
def respond (r : Response) (s : State) : State := { s with response := r }

/-- The transaction ends with `BusError(off)`: `STICKY.BUSERR <- 1` and nothing else (R80). -/
def raiseBusError (off : Nat) (s : State) : State :=
  { s with sticky := s.sticky ||| stickyBusErr, response := .busError off }

/-- The register a transaction of `size` bytes at offset `off` reaches: only 32-bit, aligned accesses to a register do;
the others end with `BusError` (R42, R74, R75, R80). -/
def accessTarget (off size : Nat) : Option Reg := if size = 4 then regAt off else none

/-- `MemRead(off, size)` (R76). -/
def memRead (off size : Nat) (s : State) : State :=
  match accessTarget off size with
  | none => raiseBusError off s
  | some r => respond (.data (regRead s r)) s

end Sys2Proof.Machine
end

