-- ==== Sys2Proof/Machine/ChaCha20.lean ====
section
/-! DEFINITION. The ChaCha20 engine (41_chacha20.md): `CC_INIT`, `CC_XOR` and the block generator. -/

namespace Sys2Proof.Machine

/-- `CCState(k[0..7], ctr, n[0..2])`: constants, key, counter, nonce, in that order (R162). -/
def ccState (k : Vector Word 8) (ctr n0 n1 n2 : Word) : Vector Word 16 :=
  #v[sigmaC0, sigmaC1, sigmaC2, sigmaC3, k[0], k[1], k[2], k[3], k[4], k[5], k[6], k[7], ctr, n0, n1, n2]

/-- `CCBlock(st)`: ten double rounds, then the feed-forward, as 64 bytes (R163). -/
def ccBlock (st : Vector Word 16) : Vector Byte 64 :=
  blockBytes (feedForward (applyTimes ccdr Config.doubleRounds st) st)

/-- `CCNextBlock()`: the block of the counter before the increment; the counter wraps modulo 2^32 and the wrap sets
`STICKY.CC_WRAP` (R164, R168). -/
def ccNextBlock (s : State) : State :=
  let c := add32 s.cc.st[12] 1
  { s with
    cc := { s.cc with blk := ccBlock s.cc.st, st := s.cc.st.set 12 c, avail := 64 }
    sticky := if c = 0 then s.sticky ||| stickyCcWrap else s.sticky }

/-- The first step of the loop of `CC_XOR`: "`if cc.avail = 0: CCNextBlock()`" (R161). -/
def ccRefill (s : State) : State := if s.cc.avail = 0 then ccNextBlock s else s

/-- The next keystream byte, `cc.blk[64 − cc.avail]` (R43, R161). -/
def ccKeyByte (c : CC) : Byte := c.blk.getD (64 - c.avail) 0

/-- One pass of the loop of `CC_XOR` (R161). -/
def ccXorByte (i : Nat) (s : State) : State :=
  let s := ccRefill s
  let s' := setBufB s i (bufB s i ^^^ ccKeyByte s.cc)
  { s' with cc := { s'.cc with avail := s'.cc.avail - 1 } }

/-- `CC_INIT` (R160): zeroise, consume `KEY`, check the key length, then the nonce length, build the context. -/
def execCcInit (s : State) : Host.Outcome State Fault Refusal :=
  let k := keyWords s
  let z := clearKey (zeroizeCC s)
  if s.klen.toNat ≠ Config.keyBytes then endWith 0x10#8 .eKeylen z
  else if s.nlen.toNat ≠ Config.ccNonceBytes then endWith 0x10#8 .eNoncelen z
  else
    endWith 0x10#8 .ok
      { z with
        cc := { z.cc with
          st := ccState k s.ctr s.nonce[0] s.nonce[1] s.nonce[2], avail := 0, gate := false, valid := true } }

/-- `CC_XOR` (R161): `LEN` bytes of `BUF` XORed with the next `LEN` keystream bytes, in place. -/
def execCcXor (s : State) : Host.Outcome State Fault Refusal :=
  if s.cc.valid = false then endWith 0x11#8 .eState s
  else if s.cc.gate = true then endWith 0x11#8 .eGated s
  else if s.len.toNat > Config.bufBytes then endWith 0x11#8 .eLen s
  else endWith 0x11#8 .ok (forUpTo ccXorByte s.len.toNat s)

end Sys2Proof.Machine
end

