-- ==== Sys2Proof/Machine/Poly1305.lean ====
section
/-! DEFINITION. The Poly1305 engine (42_poly1305.md): `PL_INIT`, `PL_UPDATE`, `PL_FINISH`, `PL_VERIFY`. The accumulator
is the integer residue of R186; the limb datapath that refines it (R187) is Machine/Limbs.lean. -/

namespace Sys2Proof.Machine

/-- `clamp(v)` (R183). -/
def clamp (v : BitVec 128) : BitVec 128 := v &&& 0x0FFFFFFC0FFFFFFC0FFFFFFC0FFFFFFF#128

/-- `PolyLoad(k[0..31])`: the context of a 32-byte one-time key (R184). -/
def polyLoad (k : List Byte) : PL :=
  { valid := true, done := false, link := false,
    r := clamp (BitVec.ofNat 128 (leint (k.take 16))), pad := BitVec.ofNat 128 (leint ((k.drop 16).take 16)),
    h := 0, lbuf := Vector.replicate 16 0, lfill := 0 }

/-- `h <- ((h + n) · r) mod (2^130 − 5)` (R186). -/
def polyStep (r : Nat) (h n : Nat) : Nat := ((h + n) * r) % Config.polyP

/-- `PolyBlock(n)` (R186). -/
def polyBlock (n : Nat) (p : PL) : PL := { p with h := polyStep p.r.toNat p.h n }

/-- `PolyTag()`: `(pl.h + pl.pad) mod 2^128` (R189). -/
def polyTag (p : PL) : BitVec 128 := BitVec.ofNat 128 (p.h + p.pad.toNat)

/-- The high bit of a full block, 2^128 (R181, R185): "the value 2^128 added to a full 16-byte Poly1305 block". -/
def polyHighBit : Nat := 2 ^ 128

/-- A byte stored in the leftover buffer (R181). -/
def polyStore (b : Byte) (p : PL) : PL := { p with lbuf := p.lbuf.setIfInBounds p.lfill b, lfill := p.lfill + 1 }

/-- A block value absorbed and the leftover buffer emptied (R181). -/
def polyFlush (n : Nat) (p : PL) : PL := { polyBlock n p with lbuf := Vector.replicate 16 0, lfill := 0 }

/-- One byte absorbed: a full block carries the high bit 2^128 and is absorbed as soon as its 16th byte arrives (R181). -/
def polyAbsorb (b : Byte) (p : PL) : PL :=
  if (polyStore b p).lfill = 16 then polyFlush (polyHighBit + leint (polyStore b p).lbuf.toList) (polyStore b p)
  else polyStore b p

/-- The 16 bytes of the partial block: the leftover bytes, 0x01, then zeros (R182, R188). -/
def polyLastBlock (p : PL) : List Byte :=
  p.lbuf.toList.take p.lfill ++ [0x01#8] ++ List.replicate (15 - p.lfill) 0x00#8

/-- The partial block, if there is one, is absorbed without the high bit (R182, R188). -/
def polyPad (p : PL) : PL := if p.lfill > 0 then polyBlock (leint (polyLastBlock p)) p else p

/-- `TAG[i] <- t[32i+31 : 32i]` for i = 0..3 (R182). -/
def tagWords (t : BitVec 128) : Vector Word 4 := Vector.ofFn fun i => t.extractLsb' (32 * i.val) 32

/-- `diff`: all 16 byte pairs of `TAG` and `XTAG` XORed and ORed into one accumulator (R191, R192). -/
def tagDiff (a b : Vector Word 4) : Word :=
  (a[0] ^^^ b[0]) ||| (a[1] ^^^ b[1]) ||| (a[2] ^^^ b[2]) ||| (a[3] ^^^ b[3])

/-- `PL_INIT` (R180). -/
def execPlInit (s : State) : Host.Outcome State Fault Refusal :=
  let k := bytesOf 32 (keyB s)
  let z := clearKey (zeroizePL s)
  if s.klen.toNat ≠ Config.keyBytes then endWith 0x20#8 .eKeylen z
  else endWith 0x20#8 .ok { z with pl := polyLoad k }

/-- `PL_UPDATE` (R181): absorb `LEN` bytes of `BUF`. -/
def execPlUpdate (s : State) : Host.Outcome State Fault Refusal :=
  if s.pl.valid = false then endWith 0x21#8 .eState s
  else if s.len.toNat > Config.bufBytes then endWith 0x21#8 .eLen s
  else endWith 0x21#8 .ok (forUpTo (fun i s => { s with pl := polyAbsorb (bufB s i) s.pl }) s.len.toNat s)

/-- `PL_FINISH` (R182): the tag; the context is erased, `pl.link` passes to the tag. -/
def execPlFinish (s : State) : Host.Outcome State Fault Refusal :=
  if s.pl.valid = false then endWith 0x22#8 .eState s
  else
    let t := polyTag (polyPad s.pl)
    let l := s.pl.link
    let z := zeroizePL s
    endWith 0x22#8 .ok { z with pl := { z.pl with link := l, done := true }, tag := tagWords t }

/-- `PL_VERIFY` (R191): on a match the gate of a linked cipher context opens; on a mismatch the Poly1305 context, `TAG`
and a linked cipher context are destroyed. -/
def execPlVerify (s : State) : Host.Outcome State Fault Refusal :=
  if s.pl.done = false then endWith 0x23#8 .eState s
  else if s.xtlen.toNat ≠ Config.tagBytes then endWith 0x23#8 .eTaglen s
  else if tagDiff s.tag s.xtag = 0#32 then
    let s' := { s with auth := { ok := true, fail := false } }
    endWith 0x23#8 .ok (if s.pl.link = true then { s' with cc := { s'.cc with gate := false } } else s')
  else
    let z := zeroizePL s
    let z := { z with auth := { z.auth with fail := true } }
    endWith 0x23#8 .eAuth (if s.pl.link = true then zeroizeCC z else z)

end Sys2Proof.Machine
end

