-- ==== Sys2Proof/Machine/Aead.lean ====
section
/-! DEFINITION. The one AEAD step that is a command (43_aead.md): `CC_POLYKEY`, which moves the one-time key from the
ChaCha20 engine to the Poly1305 engine and sets the gate (R211) and the link (R212). -/

namespace Sys2Proof.Machine

/-- `CC_POLYKEY` (R210): the one-time key is the first 32 bytes of block 0; the cipher is left at the start of block 1. A
word with `ARG[7:1]` ≠ 0 is illegal (R105). -/
def execCcPolykey (arg : Byte) (s : State) : Host.Outcome State Fault Refusal :=
  if polykeyArgLegal arg = false then endWith 0x13#8 .eIllcmd s
  else if s.cc.valid = false then endWith 0x13#8 .eState s
  else
    let b := ccBlock (s.cc.st.set 12 0)
    let z := zeroizePL s
    endWith 0x13#8 .ok
      { z with
        pl := { polyLoad (b.toList.take 32) with link := true }
        cc := { z.cc with
          st := z.cc.st.set 12 1, blk := Vector.replicate 64 0, avail := 0, gate := argOpen arg } }

end Sys2Proof.Machine
end

