-- ==== Sys2Proof/Machine/Blake2b.lean ====
section
/-! DEFINITION. The BLAKE2b engine (45_blake2b.md): `B2_INIT`, `B2_UPDATE`, `B2_FINAL` and the compression function. -/

namespace Sys2Proof.Machine

/-- `ParamWord(ol, kl)`: digest length, key length, fanout 1, depth 1 in bytes 0 to 3 (R253). -/
def paramWord (ol kl : Nat) : DWord := 0x0000000001010000#64 ^^^ (BitVec.ofNat 64 kl <<< 8) ^^^ BitVec.ofNat 64 ol

/-- The chaining value a hasher starts from: `IV` with the parameter word XORed into word 0 (R250). -/
def b2Start (ol kl : Nat) : Vector DWord 8 := b2IV.set 0 (b2IV[0] ^^^ paramWord ol kl)

/-- A 128-byte block from a byte sequence, zero-padded at the end (R252, R254, R255). -/
def padBlock (bs : List Byte) : Vector Byte 128 := Vector.ofFn fun i => bs.getD i.val 0

/-- The message words `m[0..15]`: "16×64-bit little-endian values" (R256). -/
def b2Message (blk : Vector Byte 128) : Vector DWord 16 :=
  Vector.ofFn fun i =>
    le64 blk[8 * i.val] blk[8 * i.val + 1] blk[8 * i.val + 2] blk[8 * i.val + 3]
      blk[8 * i.val + 4] blk[8 * i.val + 5] blk[8 * i.val + 6] blk[8 * i.val + 7]

/-- The working vector before round 0: `h`, then `IV` with the counter XORed into words 12 and 13 and, on the final
block, word 14 complemented; word 15 never is (R256, 90_conflicts.md C3). -/
def b2Working (h : Vector DWord 8) (t : BitVec 128) (final : Bool) : Vector DWord 16 :=
  #v[h[0], h[1], h[2], h[3], h[4], h[5], h[6], h[7],
     b2IV[0], b2IV[1], b2IV[2], b2IV[3],
     b2IV[4] ^^^ t.extractLsb' 0 64, b2IV[5] ^^^ t.extractLsb' 64 64,
     if final then b2IV[6] ^^^ 0xFFFFFFFFFFFFFFFF#64 else b2IV[6], b2IV[7]]

/-- The compression function `F(h, blk, t, final)` (R256). -/
def b2Compress (h : Vector DWord 8) (blk : Vector Byte 128) (t : BitVec 128) (final : Bool) : Vector DWord 8 :=
  let v := forUpTo (b2Round (b2Message blk)) Config.b2Rounds (b2Working h t final)
  Vector.ofFn fun i => h[i.val] ^^^ v[i.val] ^^^ v[i.val + 8]

/-- A full buffer is compressed only when another byte arrives, with the counter of its bytes and not as the final
block (R251, R255, R257). -/
def b2Flush (c : B2) : B2 :=
  if c.fill = 128 then
    { c with t := c.t + 128#128, h := b2Compress c.h c.buf (c.t + 128#128) false, buf := Vector.replicate 128 0, fill := 0 }
  else c

/-- One byte absorbed (R251). -/
def b2Absorb (b : Byte) (c : B2) : B2 :=
  let c := b2Flush c
  { c with buf := c.buf.setIfInBounds c.fill b, fill := c.fill + 1 }

/-- The final compression: the counter counts the real bytes only, the block is zero-padded (R252, R257). -/
def b2Finish (c : B2) : Vector DWord 8 :=
  b2Compress c.h (padBlock (c.buf.toList.take c.fill)) (c.t + BitVec.ofNat 128 c.fill) true

/-- Byte `j` of the digest: byte `j mod 8` of `h[j div 8]`, and zero from the digest length on (R252, R259). -/
def digestByte (h : Vector DWord 8) (ol j : Nat) : Byte :=
  if j < ol then dwordByte (h.getD (j / 8) 0) (j % 8) else 0x00#8

/-- The context of a hasher: parameter word, and the key block waiting in the buffer if there is a key (R250, R254). -/
def b2Load (ol : Nat) (key : List Byte) : B2 :=
  { valid := true, done := false, h := b2Start ol key.length, t := 0, outlen := ol,
    buf := if key.length > 0 then padBlock key else Vector.replicate 128 0,
    fill := if key.length > 0 then 128 else 0 }

/-- `B2_INIT` (R250): the output length is checked before the key length. -/
def execB2Init (s : State) : Host.Outcome State Fault Refusal :=
  let k := bytesOf s.klen.toNat (keyB s)
  let z := clearKey (zeroizeB2 s)
  if s.outlen.toNat < 1 ∨ s.outlen.toNat > Config.b2MaxBytes then endWith 0x30#8 .eOutlen z
  else if s.klen.toNat > Config.b2MaxBytes then endWith 0x30#8 .eKeylen z
  else endWith 0x30#8 .ok { z with b2 := b2Load s.outlen.toNat k }

/-- `B2_UPDATE` (R251): absorb `LEN` bytes of `BUF`. -/
def execB2Update (s : State) : Host.Outcome State Fault Refusal :=
  if s.b2.valid = false then endWith 0x31#8 .eState s
  else if s.len.toNat > Config.bufBytes then endWith 0x31#8 .eLen s
  else endWith 0x31#8 .ok (forUpTo (fun i s => { s with b2 := b2Absorb (bufB s i) s.b2 }) s.len.toNat s)

/-- `B2_FINAL` (R252): the digest; the context is consumed (R260). -/
def execB2Final (s : State) : Host.Outcome State Fault Refusal :=
  if s.b2.valid = false then endWith 0x32#8 .eState s
  else
    let h := b2Finish s.b2
    let ol := s.b2.outlen
    let z := zeroizeB2 s
    endWith 0x32#8 .ok { z with digest := packWords 16 (digestByte h ol), b2 := { z.b2 with done := true } }

end Sys2Proof.Machine
end

