-- ==== Sys2Proof/Machine/System.lean ====
section
/-! DEFINITION. The system commands (46_system.md): `NOP`, `ZEROIZE`. -/

namespace Sys2Proof.Machine

/-- `NOP` (R280): completes `OK`; it "does write `RESULT`". -/
def execNop (s : State) : Host.Outcome State Fault Refusal := endWith 0x00#8 .ok s

/-- The zeroisations the mask selects, in the order of R281. -/
def zeroizeMask (arg : Byte) (s : State) : State :=
  let s := if argMaskBit arg 0 then zeroizeCC s else s
  let s := if argMaskBit arg 1 then zeroizePL s else s
  let s := if argMaskBit arg 2 then zeroizeB2 s else s
  let s := if argMaskBit arg 3 then zeroizeXS s else s
  if argMaskBit arg 4 then zeroizeStage s else s

/-- `ZEROIZE` (R281). A word with `ARG[7:5]` ≠ 0 is illegal (R105). -/
def execZeroize (arg : Byte) (s : State) : Host.Outcome State Fault Refusal :=
  if zeroizeArgLegal arg = false then endWith 0x01#8 .eIllcmd s
  else endWith 0x01#8 .ok (zeroizeMask arg s)

end Sys2Proof.Machine
end

