-- ==== Sys2Proof/Machine/XSalsa20.lean ====
section
/-! DEFINITION. The XSalsa20 engine (44_xsalsa20.md): `XS_INIT` with the HSalsa20 subkey derivation, `XS_XOR` and the
Salsa20 block generator. -/

namespace Sys2Proof.Machine

/-- `SAState(k[0..7], w6, w7, w8, w9)`: the constants on the diagonal, the key halves in words 1 to 4 and 11 to 14 (R232). -/
def saState (k : Vector Word 8) (w6 w7 w8 w9 : Word) : Vector Word 16 :=
  #v[sigmaC0, k[0], k[1], k[2], k[3], sigmaC1, w6, w7, w8, w9, sigmaC2, k[4], k[5], k[6], k[7], sigmaC3]

/-- `HSalsa20(k, n[0..3])`: ten double rounds without feed-forward; words 0, 5, 10, 15, 6, 7, 8, 9 (R233). -/
def hsalsa20 (k : Vector Word 8) (n0 n1 n2 n3 : Word) : Vector Word 8 :=
  let x := applyTimes sadr Config.doubleRounds (saState k n0 n1 n2 n3)
  #v[x[0], x[5], x[10], x[15], x[6], x[7], x[8], x[9]]

/-- `SABlock(st)` (R235). -/
def saBlock (st : Vector Word 16) : Vector Byte 64 :=
  blockBytes (feedForward (applyTimes sadr Config.doubleRounds st) st)

/-- The 64-bit block counter `{xs.st[9], xs.st[8]}` (R236). -/
def xsCounter (x : XS) : DWord := x.st[9] ++ x.st[8]

/-- `SANextBlock()`: the counter's carry goes from word 8 into word 9; passing 2^64 − 1 sets `STICKY.XS_WRAP` (R236). -/
def saNextBlock (s : State) : State :=
  let c := (xsCounter s.xs).toNat + 1
  { s with
    xs := { s.xs with
      blk := saBlock s.xs.st
      st := (s.xs.st.set 8 (BitVec.ofNat 32 c)).set 9 (BitVec.ofNat 32 (c / 2 ^ 32))
      avail := 64 }
    sticky := if c = 2 ^ 64 then s.sticky ||| stickyXsWrap else s.sticky }

/-- "`if xs.avail = 0: SANextBlock()`" (R231). -/
def xsRefill (s : State) : State := if s.xs.avail = 0 then saNextBlock s else s

/-- The next keystream byte, `xs.blk[64 − xs.avail]` (R231). -/
def xsKeyByte (x : XS) : Byte := x.blk.getD (64 - x.avail) 0

/-- One pass of the loop of `XS_XOR` (R231). -/
def xsXorByte (i : Nat) (s : State) : State :=
  let s := xsRefill s
  let s' := setBufB s i (bufB s i ^^^ xsKeyByte s.xs)
  { s' with xs := { s'.xs with avail := s'.xs.avail - 1 } }

/-- `XS_INIT` (R230, R234): the subkey from the first 16 nonce bytes, the Salsa20 context from it and the last 8, the
counter at 0. `CTR` is not read. -/
def execXsInit (s : State) : Host.Outcome State Fault Refusal :=
  let k := keyWords s
  let z := clearKey (zeroizeXS s)
  if s.klen.toNat ≠ Config.keyBytes then endWith 0x40#8 .eKeylen z
  else if s.nlen.toNat ≠ Config.xsNonceBytes then endWith 0x40#8 .eNoncelen z
  else
    let sub := hsalsa20 k s.nonce[0] s.nonce[1] s.nonce[2] s.nonce[3]
    endWith 0x40#8 .ok
      { z with xs := { z.xs with st := saState sub s.nonce[4] s.nonce[5] 0 0, avail := 0, valid := true } }

/-- `XS_XOR` (R231): `LEN` bytes of `BUF` XORed with the next `LEN` keystream bytes, in place. This engine has no gate. -/
def execXsXor (s : State) : Host.Outcome State Fault Refusal :=
  if s.xs.valid = false then endWith 0x41#8 .eState s
  else if s.len.toNat > Config.bufBytes then endWith 0x41#8 .eLen s
  else endWith 0x41#8 .ok (forUpTo xsXorByte s.len.toNat s)

end Sys2Proof.Machine
end

