-- ==== Sys2Proof/Machine/Dispatch.lean ====
section
/-! DEFINITION. `exec`: one arm per command, each one direct call of its meaning. -/

namespace Sys2Proof.Machine

def exec (i : Instr) (s : State) : Host.Outcome State Fault Refusal :=
  match i with
  | .nop => Sys2Proof.Machine.execNop s
  | .zeroize arg => Sys2Proof.Machine.execZeroize arg s
  | .ccInit => Sys2Proof.Machine.execCcInit s
  | .ccXor => Sys2Proof.Machine.execCcXor s
  | .ccPolykey arg => Sys2Proof.Machine.execCcPolykey arg s
  | .plInit => Sys2Proof.Machine.execPlInit s
  | .plUpdate => Sys2Proof.Machine.execPlUpdate s
  | .plFinish => Sys2Proof.Machine.execPlFinish s
  | .plVerify => Sys2Proof.Machine.execPlVerify s
  | .b2Init => Sys2Proof.Machine.execB2Init s
  | .b2Update => Sys2Proof.Machine.execB2Update s
  | .b2Final => Sys2Proof.Machine.execB2Final s
  | .xsInit => Sys2Proof.Machine.execXsInit s
  | .xsXor => Sys2Proof.Machine.execXsXor s

end Sys2Proof.Machine
end

