-- ==== Sys2Proof/Machine/Bus.lean ====
section
/-! DEFINITION. The host's write to the window and its transactions (20_memory.md): the part of the bus that needs the
commands. `Machine/Step.lean` only calls it. -/

namespace Sys2Proof.Machine

/-- The offset of `CMD` (10_state.md R22). -/
def cmdOffset : Nat := 0x004

/-- An illegal command word: `complete(E_ILLCMD)` with `LASTOP` = `w[7:0]`, "and no other state changes" (R104, R105). -/
def illegalCommand (w : Word) (s : State) : Host.Outcome State Fault Refusal := endWith (fieldOpc w) .eIllcmd s

/-- A host write of the command word `w` to `CMD`: the command runs to completion inside the write (R22, R100). -/
def runCommand (w : Word) (s : State) : Host.Outcome State Fault Refusal :=
  match decode w with
  | .ok i => exec i s
  | .error _ => illegalCommand w s

/-- `MemWrite(off, size, v)` (R77). A write that completes is answered so; the answer is the model's own field, which no
command reads or writes. -/
def memWrite (off size : Nat) (v : Word) (s : State) : Host.Outcome State Fault Refusal :=
  match accessTarget off size with
  | none => .next (raiseBusError off s)
  | some .cmd => runCommand v (respond .written s)
  | some r => .next (respond .written (regWrite s v r))

/-- Reset: every piece of state takes its reset value (R330, R331). The transactions the host has yet to issue are the
host's, not the device's, and stay (assumption log 4). -/
def resetDevice (s : State) : State := { State.reset with pending := s.pending }

/-- One event of the outside world (00_scope.md R8, R9). -/
def transact (e : HostEvent) (s : State) : Host.Outcome State Fault Refusal :=
  match e with
  | .read off size => .next (memRead off size s)
  | .write off size v => memWrite off size v s
  | .reset => .next (resetDevice s)

/-- The host has issued its next transaction: `rest` are those still to come (R83). -/
def takeEvent (rest : List HostEvent) (s : State) : State := { s with pending := rest }

/-- The bus transaction that carries an opcode-table word: a 32-bit write to `CMD` (R100, R107). -/
def commandEvent (nbits w : Nat) : HostEvent := .write cmdOffset 4 (tableWord nbits w)

end Sys2Proof.Machine
end

