-- ==== Sys2Proof/Machine/Step.lean ====
section
/-! DEFINITION. The step: "The machine's step is one host bus transaction" (00_scope.md R9). -/

namespace Sys2Proof.Machine

/-- One step: the host's next transaction, in its program order (R9, R83). With none pending the device does nothing:
it has "no autonomous activity between commands" (R8, assumption log 4). -/
def step (s : State) : Host.Outcome State Fault Refusal :=
  match s.pending with
  | [] => .next s
  | e :: rest => transact e (takeEvent rest s)

/-- `s` with the command word `w` as the host's very next transaction, a write to `CMD`: the only way a command reaches
the device (R100). -/
def State.withFetchWord (s : State) (nbits w : Nat) : State :=
  { s with pending := commandEvent nbits w :: s.pending }

end Sys2Proof.Machine
end

