-- ==== Sys2Proof/Machine/Halves.lean ====
section
/-! DEFINITION. 64-bit operations as pairs of 32-bit halves (40_primitives.md R137, 45_blake2b.md R261): an
implementation choice with no architectural effect; no command calls it. -/

namespace Sys2Proof.Machine

/-- A 64-bit word as `{xh, xl}` (R137). -/
structure Halves where
  /-- the more significant half -/
  hi : Word
  /-- the less significant half -/
  lo : Word
  deriving DecidableEq, Repr

/-- The halves of a 64-bit word. -/
def halvesOf (x : DWord) : Halves := { hi := x.extractLsb' 32 32, lo := x.extractLsb' 0 32 }

/-- The 64-bit word of two halves. -/
def halvesVal (x : Halves) : DWord := x.hi ++ x.lo

/-- `xor64` on halves (R137). -/
def xor64Halves (a b : Halves) : Halves := { hi := a.hi ^^^ b.hi, lo := a.lo ^^^ b.lo }

/-- `add64` on halves, with the carry `c = (al + bl) >> 32` (R137). -/
def add64Halves (a b : Halves) : Halves :=
  let c := (a.lo.toNat + b.lo.toNat) / 2 ^ 32
  { hi := add32 (add32 a.hi b.hi) (BitVec.ofNat 32 c), lo := add32 a.lo b.lo }

/-- `rotr64` on halves, by 32 (R137). -/
def rotr64Halves32 (x : Halves) : Halves := { hi := x.lo, lo := x.hi }

/-- `rotr64` on halves, by 0 < n < 32 (R137). -/
def rotr64HalvesLow (x : Halves) (n : Nat) : Halves :=
  { hi := (x.hi >>> n) ||| (x.lo <<< (32 - n)), lo := (x.lo >>> n) ||| (x.hi <<< (32 - n)) }

/-- `rotr64` on halves, by 63 (R137). -/
def rotr64Halves63 (x : Halves) : Halves :=
  { hi := (x.hi <<< 1) ||| (x.lo >>> 31), lo := (x.lo <<< 1) ||| (x.hi >>> 31) }

end Sys2Proof.Machine
end

