-- ==== Sys2Proof/Machine/Messages.lean ====
section
/-! DEFINITION. The whole-message functions the command sequences compute: Poly1305 (42_poly1305.md R185, R193),
BLAKE2b (45_blake2b.md R255, R262), the keystreams (41_chacha20.md R164, 44_xsalsa20.md R236) and the
ChaCha20-Poly1305 AEAD (43_aead.md R213, R216). No command calls them. -/

namespace Sys2Proof.Machine

/-! ## Poly1305 -/

/-- The bytes of message `M` from index `a`, `n` of them (`M[a .. a+n)`). -/
def slice (m : List Byte) (a n : Nat) : List Byte := (m.drop a).take n

/-- The full-block value `n_j = leint(M[16j .. 16j+16)) + 2^128` (R185). -/
def polyFullBlock (m : List Byte) (j : Nat) : Nat := polyHighBit + leint (slice m (16 * j) 16)

/-- The partial-block value `n_q = leint(M[16q .. L)) + 2^(8ρ)` (R185). -/
def polyPartialBlock (m : List Byte) : Nat :=
  leint (m.drop (16 * (m.length / 16))) + 2 ^ (8 * (m.length % 16))

/-- The accumulator `h` after the first `q` full blocks of the message (R186). -/
def polyAcc (r h : Nat) (m : List Byte) : Nat → Nat
  | 0 => h
  | q + 1 => polyStep r (polyAcc r h m q) (polyFullBlock m q)

/-- The accumulator after all blocks, the partial one included (R185, R186). -/
def polyHash (r : Nat) (m : List Byte) : Nat :=
  let h := polyAcc r 0 m (m.length / 16)
  if m.length % 16 > 0 then polyStep r h (polyPartialBlock m) else h

/-- The number of blocks `B` of a message: `q` full ones and a partial one if any byte is left (R185, R193). -/
def polyBlockCount (m : List Byte) : Nat := (m.length + 15) / 16

/-- The block value `n_j` (R185). -/
def polyBlockValue (m : List Byte) (j : Nat) : Nat :=
  if 16 * j + 16 ≤ m.length then polyFullBlock m j else polyPartialBlock m

/-- `Σ_{j=0..B−1} n_j · r^(B−j)` (R193). -/
def polySum (r : Nat) (m : List Byte) : Nat :=
  ((List.range (polyBlockCount m)).map fun j => polyBlockValue m j * r ^ (polyBlockCount m - j)).sum

/-- `Poly1305(M, k)` as a 128-bit tag (R193). -/
def poly1305 (m k : List Byte) : BitVec 128 :=
  BitVec.ofNat 128 (polyHash (polyLoad k).r.toNat m + (polyLoad k).pad.toNat)

/-! ## BLAKE2b -/

/-- `D`: the key block, if keyed, followed by the message (R255). -/
def b2Data (key m : List Byte) : List Byte :=
  (if key.length > 0 then key ++ List.replicate (128 - key.length) 0x00#8 else []) ++ m

/-- The number of blocks before the last one: `max(1, ⌈N/128⌉) − 1` (R255). -/
def b2Before (n : Nat) : Nat := (n - 1) / 128

/-- The chaining value after the first `j` blocks of `D`, all non-final (R255, R262). -/
def b2Chain (h : Vector DWord 8) (d : List Byte) : Nat → Vector DWord 8
  | 0 => h
  | j + 1 => b2Compress (b2Chain h d j) (padBlock (slice d (128 * j) 128)) (BitVec.ofNat 128 (128 * (j + 1))) false

/-- The final chaining value of `D` (R255, R262). -/
def b2HashWords (ol kl : Nat) (d : List Byte) : Vector DWord 8 :=
  b2Compress (b2Chain (b2Start ol kl) d (b2Before d.length)) (padBlock (d.drop (128 * b2Before d.length)))
    (BitVec.ofNat 128 d.length) true

/-- `BLAKE2b(M, outlen, key)`, byte `j` (R262). -/
def blake2b (m : List Byte) (ol : Nat) (key : List Byte) : List Byte :=
  bytesOf ol (digestByte (b2HashWords ol key.length (b2Data key m)) ol)

/-! ## Keystreams -/

/-- The ChaCha20 input state `m` blocks further on: the counter advances modulo 2^32, the nonce is untouched (R164, R168). -/
def ccAdvance (st : Vector Word 16) (m : Nat) : Vector Word 16 := st.set 12 (st[12] + BitVec.ofNat 32 m)

/-- Keystream byte `i` from here of a context: first what is left of its block buffer, then successive blocks (R164). -/
def ccKeystream (c : CC) (i : Nat) : Byte :=
  if i < c.avail then c.blk.getD (64 - c.avail + i) 0
  else (ccBlock (ccAdvance c.st ((i - c.avail) / 64))).getD ((i - c.avail) % 64) 0

/-- The Salsa20 input state `m` blocks further on: a 64-bit counter in words 8 (low) and 9 (high) (R236). -/
def xsAdvance (st : Vector Word 16) (m : Nat) : Vector Word 16 :=
  let c : DWord := (st[9] ++ st[8] : BitVec (32 + 32)) + BitVec.ofNat 64 m
  (st.set 8 (c.extractLsb' 0 32)).set 9 (c.extractLsb' 32 32)

/-- Keystream byte `i` from here of an XSalsa20 context (R236). -/
def xsKeystream (x : XS) (i : Nat) : Byte :=
  if i < x.avail then x.blk.getD (64 - x.avail + i) 0
  else (saBlock (xsAdvance x.st ((i - x.avail) / 64))).getD ((i - x.avail) % 64) 0

/-- How many blocks `n` further keystream bytes generate when `avail` are left (R164, R236). -/
def blocksNeeded (avail n : Nat) : Nat := (n - avail + 63) / 64

/-- The unconsumed bytes after `n` further keystream bytes (R164, R236). -/
def availAfter (avail n : Nat) : Nat := avail + 64 * blocksNeeded avail n - n

/-! ## The AEAD -/

/-- `pad16(n)` (R213). -/
def pad16 (n : Nat) : List Byte := List.replicate ((16 - n % 16) % 16) 0x00#8

/-- `macdata(aad, ct)` (R213). -/
def macdata (aad ct : List Byte) : List Byte :=
  aad ++ pad16 aad.length ++ ct ++ pad16 ct.length ++ stint 8 aad.length ++ stint 8 ct.length

/-- The words of a byte string, zero-padded at the end to a multiple of 4 bytes: `W(b)` (30_encoding.md R108). -/
def wordsOf : List Byte → List Word
  | [] => []
  | [a] => [le32 a 0 0 0]
  | [a, b] => [le32 a b 0 0]
  | [a, b, c] => [le32 a b c 0]
  | a :: b :: c :: d :: rest => le32 a b c d :: wordsOf rest

/-- `CCState(key, counter, nonce)` from byte strings (R162, R216). -/
def ccStateOf (key : List Byte) (ctr : Word) (nonce : List Byte) : Vector Word 16 :=
  ccState (Vector.ofFn fun i => (wordsOf key).getD i.val 0) ctr ((wordsOf nonce).getD 0 0) ((wordsOf nonce).getD 1 0)
    ((wordsOf nonce).getD 2 0)

/-- `otk`: the one-time key (R216). -/
def oneTimeKey (key nonce : List Byte) : List Byte := (ccBlock (ccStateOf key 0 nonce)).toList.take 32

/-- `KS(key, nonce)[i]`: the keystream from block 1 on (R216). -/
def aeadKeystream (key nonce : List Byte) (i : Nat) : Byte :=
  (ccBlock (ccStateOf key (BitVec.ofNat 32 (1 + i / 64)) nonce)).getD (i % 64) 0

/-- A byte string XORed with the keystream (R216). -/
def aeadXor (key nonce bs : List Byte) : List Byte :=
  bytesOf bs.length fun i => bs.getD i 0 ^^^ aeadKeystream key nonce i

/-- `Seal(key, nonce, aad, pt) = (ct, tag)` (R216). -/
def aeadSeal (key nonce aad pt : List Byte) : List Byte × BitVec 128 :=
  let ct := aeadXor key nonce pt
  (ct, poly1305 (macdata aad ct) (oneTimeKey key nonce))

/-- `Open(key, nonce, aad, ct, tag)`: the plaintext, or nothing (R216). -/
def aeadOpen (key nonce aad ct : List Byte) (tag : BitVec 128) : Option (List Byte) :=
  if poly1305 (macdata aad ct) (oneTimeKey key nonce) = tag then some (aeadXor key nonce ct) else none

end Sys2Proof.Machine
end

