-- ==== Sys2Proof/Machine/HostScript.lean ====
section
/-! DEFINITION. The host scripts of the spec as lists of bus transactions: the lines `WR`, `RD`, `CMD` and the
pseudo-operations (30_encoding.md R107, R108) and the AEAD sequences (43_aead.md R214, R215). "none is a device
feature": the device sees only the transactions. -/

namespace Sys2Proof.Machine

/-- `WR <reg>, <value>` (R107). -/
def wr (r : Reg) (v : Word) : HostEvent := .write (regOffset r) 4 v

/-- `RD <reg>` (R107). -/
def rd (r : Reg) : HostEvent := .read (regOffset r) 4

/-- `CMD <mnemonic> <arg>`: a write of the command's word to `CMD` (R107). -/
def cmd (i : Instr) : HostEvent := .write cmdOffset 4 (encode i)

/-- `WR <reg>[i], W(b)[i]` for each word `i` of the byte string `b`, from the array's base offset (R108). -/
def wrArray (base : Nat) (b : List Byte) : List HostEvent :=
  (wordsOf b).zipIdx.map fun p => .write (base + 4 * p.2) 4 p.1

/-- `RD <reg>[i]` for `i` in 0..⌈n/4⌉−1 (R108). -/
def rdArray (base n : Nat) : List HostEvent :=
  (List.range ((n + 3) / 4)).map fun i => .read (base + 4 * i) 4

/-- A length register gets `len(b)`. -/
def wrLen (r : Reg) (b : List Byte) : HostEvent := wr r (BitVec.ofNat 32 b.length)

/-- `LOADKEY b`, 0 ≤ len(b) ≤ 64 (R108). -/
def loadKey (b : List Byte) : List HostEvent := wrArray (regOffset (.key 0)) b ++ [wrLen .klen b]

/-- `LOADNONCE b`, len(b) ≤ 24 (R108). -/
def loadNonce (b : List Byte) : List HostEvent := wrArray (regOffset (.nonce 0)) b ++ [wrLen .nlen b]

/-- `LOADXTAG b`, len(b) ≤ 16 (R108). -/
def loadXtag (b : List Byte) : List HostEvent := wrArray (regOffset (.xtag 0)) b ++ [wrLen .xtlen b]

/-- `LOADBUF b`, len(b) ≤ 128 (R108). -/
def loadBuf (b : List Byte) : List HostEvent := wrArray (regOffset (.buf 0)) b ++ [wrLen .len b]

/-- `READBUF n` (R108). -/
def readBuf (n : Nat) : List HostEvent := rdArray (regOffset (.buf 0)) n

/-- `READTAG` (R108). -/
def readTag : List HostEvent := rdArray (regOffset (.tag 0)) 16

/-- `READDIGEST n` (R108). -/
def readDigest (n : Nat) : List HostEvent := rdArray (regOffset (.digest 0)) n

/-- The successive chunks of a byte string (R108). DESIGN CHOICE (assumption log 13): R108 leaves the cut free ("any sizes
from 0 to 128"); the model cuts full 128-byte chunks, the last one shorter, and none at all from an empty string. -/
def chunks (b : List Byte) : List (List Byte) := (List.range ((b.length + 127) / 128)).map fun k => slice b (128 * k) 128

/-- `CC_ENC` and `CC_DEC` (R108). -/
def ccEnc : HostEvent := cmd .ccXor

/-- `XS_ENC` and `XS_DEC` (R108). -/
def xsEnc : HostEvent := cmd .xsXor

/-- `CC_STREAM b` (R108). -/
def ccStream (b : List Byte) : List HostEvent :=
  (chunks b).flatMap fun c => loadBuf c ++ [cmd .ccXor] ++ readBuf c.length

/-- `XS_STREAM b` (R108). -/
def xsStream (b : List Byte) : List HostEvent :=
  (chunks b).flatMap fun c => loadBuf c ++ [cmd .xsXor] ++ readBuf c.length

/-- `CC_KEYSTREAM n`, n ≤ 128 (R108). -/
def ccKeystreamScript (n : Nat) : List HostEvent :=
  loadBuf (List.replicate n 0x00#8) ++ [cmd .ccXor] ++ readBuf n

/-- `PL_ABSORB b` (R108). -/
def plAbsorb (b : List Byte) : List HostEvent := (chunks b).flatMap fun c => loadBuf c ++ [cmd .plUpdate]

/-- `PL_PAD16 n` (R108). -/
def plPad16 (n : Nat) : List HostEvent := plAbsorb (pad16 n)

/-- `PL_AUTH b, key` (R108). -/
def plAuth (b key : List Byte) : List HostEvent :=
  loadKey key ++ [cmd .plInit] ++ plAbsorb b ++ [cmd .plFinish] ++ readTag

/-- `B2_ABSORB b` (R108). -/
def b2AbsorbScript (b : List Byte) : List HostEvent := (chunks b).flatMap fun c => loadBuf c ++ [cmd .b2Update]

/-- `B2_HASH b, outlen, key`; no key: `WR KLEN, 0` (R108). -/
def b2Hash (b : List Byte) (outlen : Nat) (key : Option (List Byte)) : List HostEvent :=
  (match key with
    | some k => loadKey k
    | none => [wr .klen 0])
    ++ [wr .outlen (BitVec.ofNat 32 outlen), cmd .b2Init] ++ b2AbsorbScript b ++ [cmd .b2Final] ++ readDigest outlen

/-- `ZEROIZE_ALL`, word 0x00001F01 (R108). -/
def zeroizeAll : HostEvent := cmd (.zeroize 0x1F#8)

/-- `AEAD_SEAL key, nonce, aad, pt` (R214); the last command is `CMD ZEROIZE CC+PL+STAGE`. -/
def aeadSealScript (key nonce aad pt : List Byte) : List HostEvent :=
  loadKey key ++ loadNonce nonce ++ [wr .ctr 0, cmd .ccInit, cmd (.ccPolykey 0x00#8)]
    ++ plAbsorb aad ++ plPad16 aad.length
    ++ ((chunks pt).flatMap fun c => loadBuf c ++ [cmd .ccXor, cmd .plUpdate] ++ readBuf c.length)
    ++ plPad16 pt.length ++ plAbsorb (stint 8 aad.length ++ stint 8 pt.length)
    ++ [cmd .plFinish] ++ readTag ++ [cmd (.zeroize 0x13#8)]

/-- `AEAD_OPEN key, nonce, aad, ct, tag` up to the read of `RESULT` after `PL_VERIFY` (R215). -/
def aeadOpenVerifyScript (key nonce aad ct tag : List Byte) : List HostEvent :=
  loadKey key ++ loadNonce nonce ++ [wr .ctr 0, cmd .ccInit, cmd (.ccPolykey 0x01#8)]
    ++ plAbsorb aad ++ plPad16 aad.length ++ plAbsorb ct ++ plPad16 ct.length
    ++ plAbsorb (stint 8 aad.length ++ stint 8 ct.length) ++ [cmd .plFinish] ++ loadXtag tag ++ [cmd .plVerify, rd .result]

/-- The rest of `AEAD_OPEN`: the host decides on `RESULT.CODE`; on any other code than `OK` it returns `null` and no
ciphertext byte is XORed (R215). -/
def aeadOpenRestScript (result : Word) (ct : List Byte) : List HostEvent :=
  if result.extractLsb' 0 8 = 0x00#8 then ccStream ct ++ [cmd (.zeroize 0x13#8)] else [cmd (.zeroize 0x13#8)]

end Sys2Proof.Machine
end

