-- ==== Sys2Proof/Machine/Limbs.lean ====
section
/-! DEFINITION. The Poly1305 limb datapath (40_primitives.md R147 to R151, 42_poly1305.md R183, R187, R190): five limbs
in radix 2^26. It refines the integer formulas of Machine/Poly1305.lean, which alone are architectural (R187, D35); no
command calls it. -/

namespace Sys2Proof.Machine

/-- Five limbs in radix 2^26 (R147). -/
structure Limbs where
  /-- weight 1 -/
  l0 : Nat
  /-- weight 2^26 -/
  l1 : Nat
  /-- weight 2^52 -/
  l2 : Nat
  /-- weight 2^78 -/
  l3 : Nat
  /-- weight 2^104 -/
  l4 : Nat
  deriving DecidableEq, Repr

/-- `M26` + 1 = 2^26, the radix. -/
def radix : Nat := 2 ^ 26

/-- The limbs of an integer below 2^130 (R147). -/
def limbsOf (v : Nat) : Limbs :=
  { l0 := v % radix, l1 := v / 2 ^ 26 % radix, l2 := v / 2 ^ 52 % radix, l3 := v / 2 ^ 78 % radix,
    l4 := v / 2 ^ 104 % radix }

/-- `Hval` = Σ H_i · 2^(26i) (R147). -/
def limbVal (a : Limbs) : Nat := a.l0 + a.l1 * 2 ^ 26 + a.l2 * 2 ^ 52 + a.l3 * 2 ^ 78 + a.l4 * 2 ^ 104

/-- The field adder: limb by limb, no carry between limbs (R148). -/
def limbAdd (a n : Limbs) : Limbs :=
  { l0 := a.l0 + n.l0, l1 := a.l1 + n.l1, l2 := a.l2 + n.l2, l3 := a.l3 + n.l3, l4 := a.l4 + n.l4 }

/-- The modular multiplier: `D0..D4`, with `S_i` = 5·R_i (R149). -/
def limbMul (a r : Limbs) : Limbs :=
  let s1 := 5 * r.l1
  let s2 := 5 * r.l2
  let s3 := 5 * r.l3
  let s4 := 5 * r.l4
  { l0 := a.l0 * r.l0 + a.l1 * s4 + a.l2 * s3 + a.l3 * s2 + a.l4 * s1
    l1 := a.l0 * r.l1 + a.l1 * r.l0 + a.l2 * s4 + a.l3 * s3 + a.l4 * s2
    l2 := a.l0 * r.l2 + a.l1 * r.l1 + a.l2 * r.l0 + a.l3 * s4 + a.l4 * s3
    l3 := a.l0 * r.l3 + a.l1 * r.l2 + a.l2 * r.l1 + a.l3 * r.l0 + a.l4 * s4
    l4 := a.l0 * r.l4 + a.l1 * r.l3 + a.l2 * r.l2 + a.l3 * r.l1 + a.l4 * r.l0 }

/-- The carry chain after a multiplication; the carry out of limb 4 comes back into limb 0 times 5 (R150). -/
def limbCarry (d : Limbs) : Limbs :=
  let d1 := d.l1 + d.l0 / radix
  let d2 := d.l2 + d1 / radix
  let d3 := d.l3 + d2 / radix
  let d4 := d.l4 + d3 / radix
  let h0 := d.l0 % radix + 5 * (d4 / radix)
  { l0 := h0 % radix, l1 := d1 % radix + h0 / radix, l2 := d2 % radix, l3 := d3 % radix, l4 := d4 % radix }

/-- One block step of the limb datapath: adder, multiplier, carry chain (R187). -/
def limbBlock (r a : Limbs) (n : Nat) : Limbs := limbCarry (limbMul (limbAdd a (limbsOf n)) r)

/-- The full carry of the final reduction (R151). -/
def limbFullCarry (a : Limbs) : Limbs :=
  let h1 := a.l1 % radix
  let l2 := a.l2 + a.l1 / radix
  let l3 := a.l3 + l2 / radix
  let l4 := a.l4 + l3 / radix
  let l0 := a.l0 + 5 * (l4 / radix)
  { l0 := l0 % radix, l1 := h1 + l0 / radix, l2 := l2 % radix, l3 := l3 % radix, l4 := l4 % radix }

/-- The mask select `(H & ~mask) | (G & mask)` on a 64-bit limb register (R151, R4). -/
def maskSelect (mask h g : BitVec 64) : BitVec 64 := (h &&& ~~~mask) ||| (g &&& mask)

/-- The final reduction: full carry, `G = Hval − p` limb-wise with `G4` in two's complement, the mask from the sign bit
of `G4` by arithmetic, the select without a branch (R151). -/
def limbReduce (a : Limbs) : Limbs :=
  let h := limbFullCarry a
  let g0 := h.l0 + 5
  let g1 := h.l1 + g0 / radix
  let g2 := h.l2 + g1 / radix
  let g3 := h.l3 + g2 / radix
  let g4 := BitVec.ofNat 64 (h.l4 + g3 / radix) - BitVec.ofNat 64 radix
  let mask := (g4 >>> 63) - 1#64
  { l0 := (maskSelect mask (BitVec.ofNat 64 h.l0) (BitVec.ofNat 64 (g0 % radix))).toNat
    l1 := (maskSelect mask (BitVec.ofNat 64 h.l1) (BitVec.ofNat 64 (g1 % radix))).toNat
    l2 := (maskSelect mask (BitVec.ofNat 64 h.l2) (BitVec.ofNat 64 (g2 % radix))).toNat
    l3 := (maskSelect mask (BitVec.ofNat 64 h.l3) (BitVec.ofNat 64 (g3 % radix))).toNat
    l4 := (maskSelect mask (BitVec.ofNat 64 h.l4) g4).toNat }

/-- `h128`: the reduced limbs packed into 128 bits (R190). -/
def limbPack (a : Limbs) : BitVec 128 :=
  BitVec.ofNat 128 a.l0 ||| (BitVec.ofNat 128 a.l1 <<< 26) ||| (BitVec.ofNat 128 a.l2 <<< 52)
    ||| (BitVec.ofNat 128 a.l3 <<< 78) ||| (BitVec.ofNat 128 a.l4 <<< 104)

/-- The 128-bit addition of `pad` as four 32-bit words with the carry propagated and the last one dropped (R190). -/
def addWords128 (a b : BitVec 128) : BitVec 128 :=
  let w (x : BitVec 128) (i : Nat) : Nat := (x.extractLsb' (32 * i) 32).toNat
  let s0 := w a 0 + w b 0
  let s1 := w a 1 + w b 1 + s0 / 2 ^ 32
  let s2 := w a 2 + w b 2 + s1 / 2 ^ 32
  let s3 := w a 3 + w b 3 + s2 / 2 ^ 32
  BitVec.ofNat 32 s3 ++ BitVec.ofNat 32 s2 ++ BitVec.ofNat 32 s1 ++ BitVec.ofNat 32 s0

/-- The tag in the limb datapath (R190). -/
def limbTag (a : Limbs) (pad : BitVec 128) : BitVec 128 := addWords128 (limbPack (limbReduce a)) pad

/-- Four key bytes from byte `a` on, as a little-endian word. -/
def keyLe32 (k : List Byte) (a : Nat) : Word := le32 (k.getD a 0) (k.getD (a + 1) 0) (k.getD (a + 2) 0) (k.getD (a + 3) 0)

/-- The clamp in limb form (R183). -/
def clampLimbs (k : List Byte) : Limbs :=
  { l0 := (keyLe32 k 0 &&& 0x3FFFFFF#32).toNat
    l1 := ((keyLe32 k 3 >>> 2) &&& 0x3FFFF03#32).toNat
    l2 := ((keyLe32 k 6 >>> 4) &&& 0x3FFC0FF#32).toNat
    l3 := ((keyLe32 k 9 >>> 6) &&& 0x3F03FFF#32).toNat
    l4 := ((keyLe32 k 12 >>> 8) &&& 0x00FFFFF#32).toNat }

end Sys2Proof.Machine
end

