-- ==== Sys2Proof/Safety.lean ====
section
/-! DEFINITION. The terms claims use: the invariant of the state (60_exceptions.md R302 and the invariants stated in
10_state.md R38, R39, R43 to R47), and the sequences of commands the rules speak of. -/

namespace Sys2Proof.Machine

/-- R43, R302: the cursor is in range, and an invalid ChaCha20 context is all zero (so a closed gate implies a valid
context). -/
structure CC.Inv (c : CC) : Prop where
  /-- `cc.avail` ∈ 0..64 -/
  avail_le : c.avail ≤ 64
  /-- "`cc.valid` = 0 implies every other field is 0" -/
  invalid_zero : c.valid = false → c = CC.zero

/-- R44, R302. -/
structure PL.Inv (p : PL) : Prop where
  /-- `pl.valid` and `pl.done` are never both 1 -/
  not_both : ¬(p.valid = true ∧ p.done = true)
  /-- `pl.r` < 2^124 -/
  r_lt : p.r.toNat < 2 ^ 124
  /-- `pl.h` < 2^130 − 5 -/
  h_lt : p.h < Config.polyP
  /-- `pl.lfill` ∈ 0..15 -/
  lfill_le : p.lfill ≤ 15
  /-- "`pl.valid` = 0 implies `pl.r`, `pl.pad`, `pl.h`, `pl.lbuf`, `pl.lfill` are 0" -/
  invalid_zero : p.valid = false → p = { PL.zero with done := p.done, link := p.link }

/-- R45, R255, R302. -/
structure B2.Inv (b : B2) : Prop where
  /-- `b2.valid` and `b2.done` are never both 1 -/
  not_both : ¬(b.valid = true ∧ b.done = true)
  /-- `b2.fill` ∈ 0..128 -/
  fill_le : b.fill ≤ 128
  /-- `b2.outlen` ∈ 0..64 -/
  outlen_le : b.outlen ≤ 64
  /-- `b2.outlen` is 1 to 64 while `b2.valid` = 1 -/
  outlen_pos : b.valid = true → 1 ≤ b.outlen
  /-- `b2.t` ≡ 0 (mod 128) while `b2.valid` -/
  t_mod : b.valid = true → b.t.toNat % 128 = 0
  /-- `b2.fill` = 0 only if nothing has been absorbed so far -/
  fill_zero : b.valid = true → b.fill = 0 → b.t = 0
  /-- "`b2.valid` = 0 implies the other fields except `b2.done` are 0" -/
  invalid_zero : b.valid = false → b = { B2.zero with done := b.done }

/-- R46, R302. -/
structure XS.Inv (x : XS) : Prop where
  /-- `xs.avail` ∈ 0..64 -/
  avail_le : x.avail ≤ 64
  /-- "`xs.valid` = 0 implies every other field is 0" -/
  invalid_zero : x.valid = false → x = XS.zero

/-- The invariant of the whole state (R302). -/
structure State.Inv (s : State) : Prop where
  /-- the ChaCha20 context -/
  cc : s.cc.Inv
  /-- the Poly1305 context -/
  pl : s.pl.Inv
  /-- the BLAKE2b context -/
  b2 : s.b2.Inv
  /-- the XSalsa20 context -/
  xs : s.xs.Inv
  /-- `auth.ok` and `auth.fail` are never both 1 (R47) -/
  auth : ¬(s.auth.ok = true ∧ s.auth.fail = true)
  /-- `cc.gate` = 1 implies `cc.valid` = 1 -/
  gate_valid : s.cc.gate = true → s.cc.valid = true
  /-- `pl.link` = 1 implies `cc.valid` = 1 -/
  link_valid : s.pl.link = true → s.cc.valid = true
  /-- `TAG` is "all zero whenever `pl.done` = 0" (R38) -/
  tag_zero : s.pl.done = false → s.tag = Vector.replicate 4 0
  /-- `DIGEST` is "all zero whenever `b2.done` = 0" (R39) -/
  digest_zero : s.b2.done = false → s.digest = Vector.replicate 16 0

/-- The host has put the chunk `c` (at most 128 bytes) at the start of `BUF` and its length in `LEN`: `LOADBUF c`
(30_encoding.md R108). Bytes past the chunk keep what they held. -/
def loadChunk (c : List Byte) (s : State) : State :=
  { s with buf := Vector.ofFn fun i => c.getD i.val s.buf[i], len := BitVec.ofNat 8 c.length }

/-- One command for each chunk, in order, each after the host has loaded its chunk (the streaming use of R185, R262,
R343). -/
def execChunks (i : Instr) : List (List Byte) → State → Host.Outcome State Fault Refusal
  | [], s => .next s
  | c :: cs, s =>
    match exec i (loadChunk c s) with
    | .next t => execChunks i cs t
    | .fault r => .fault r
    | .refused r => .refused r

/-- A host event that can end the closed gate's hold on the ChaCha20 context (43_aead.md R211, R212): reset, or a write
to `CMD` of `CC_INIT`, `CC_POLYKEY`, `PL_VERIFY` or `ZEROIZE` with `CC`. -/
def touchesGatedContext : HostEvent → Bool
  | .reset => true
  | .read _ _ => false
  | .write off size v =>
    off == cmdOffset && size == 4 &&
      match decode v with
      | .ok .ccInit => true
      | .ok (.ccPolykey _) => true
      | .ok .plVerify => true
      | .ok (.zeroize arg) => argMaskBit arg 0
      | .ok .nop => false
      | .ok .ccXor => false
      | .ok .plInit => false
      | .ok .plUpdate => false
      | .ok .plFinish => false
      | .ok .b2Init => false
      | .ok .b2Update => false
      | .ok .b2Final => false
      | .ok .xsInit => false
      | .ok .xsXor => false
      | .error _ => false

end Sys2Proof.Machine
end

