-- ==== Sys2Proof/Certificates/Slice0/Obligations.lean ====
section
/-! DEFINITION. The statements for the provers, each citing the rules of spec/ it formalises. `exec i s = .next t` is the
completion of command `i`; a record `{ s with … }` names every field a command writes, so it is the command's frame too. -/

section

open Sys2Proof Sys2Proof.Machine

/-! ## Encoding (30_encoding.md) -/

/-- Decoding the word of a well-formed command gives the command back, at every value of its `ARG` (R101, R103, R105). -/
def Obligations.DecodeEncodeRoundTrip : Prop :=
  ∀ i : Instr, i.wellFormed = true → decode (encode i) = .ok i

/-- Each command has one word: a word the decoder accepts is the encoding of a well-formed command (R103, R105, R106). -/
def Obligations.DecodeAcceptsOnlyEncodings : Prop :=
  ∀ (w : Word) (i : Instr), decode w = .ok i → i.wellFormed = true ∧ encode i = w

/-- The decoder is the opcode map of R103: a row selects a word exactly when the word decodes to that row's command, with
`ARG` = `w[15:8]` where the command has an argument; no two rows select one word; a word no row selects is rejected. -/
def Obligations.OpcodeMapIsTheDecoder : Prop :=
  ∀ w : Word,
    (∀ row ∈ opcodeTable, row.selects w = true →
      ∃ i, decode w = .ok i ∧ mnemonicOf i = row.mnemonic ∧ argOf i = w.extractLsb' 8 8) ∧
    (∀ i, decode w = .ok i → ∃ row ∈ opcodeTable, row.selects w = true ∧ row.mnemonic = mnemonicOf i) ∧
    (opcodeTable.filter fun row => row.selects w).length ≤ 1 ∧
    ((∀ row ∈ opcodeTable, row.selects w = false) → ∃ e, decode w = .error e)

/-- Words written out from the encodings the command rules print decode to their commands. -/
def Obligations.DecodeSpecWords : Prop :=
  decode 0x00000000#32 = .ok .nop ∧ decode 0x00001301#32 = .ok (.zeroize 0x13#8) ∧
  decode 0x00001F01#32 = .ok (.zeroize 0x1F#8) ∧ decode 0x00000010#32 = .ok .ccInit ∧
  decode 0x00000011#32 = .ok .ccXor ∧ decode 0x00000013#32 = .ok (.ccPolykey 0x00#8) ∧
  decode 0x00000113#32 = .ok (.ccPolykey 0x01#8) ∧ decode 0x00000020#32 = .ok .plInit ∧
  decode 0x00000030#32 = .ok .b2Init ∧ decode 0x00000040#32 = .ok .xsInit

/-- A write to `CMD` runs its word inside the write, whatever the word (R9, R22, R100): the decoded command, or for a word
the decoder rejects the illegal command of R104 and R105. What stands around it, `pending` and `response`, is the model's
own view of the bus (assumption log 1). -/
def Obligations.StepRunsDecodedCommand : Prop :=
  ∀ (s : State) (w : Word) (rest : List HostEvent), s.pending = .write 0x004 4 w :: rest →
    step s = runCommand w { s with pending := rest, response := .written } ∧
    (∀ i, decode w = .ok i → step s = exec i { s with pending := rest, response := .written }) ∧
    (∀ e, decode w = .error e →
      step s = .next { s with
        pending := rest, response := .written, code := .eIllcmd, lastop := w.extractLsb' 0 8,
        sticky := s.sticky ||| 0x01#6 })

/-- A word whose opcode is none of the fourteen completes `E_ILLCMD`; nothing but `RESULT` and `STICKY.USEERR` changes
(R104). -/
def Obligations.UnassignedOpcodeIsIllegal : Prop :=
  ∀ (s : State) (w : Word),
    w.extractLsb' 0 8 ∉ [0x00#8, 0x01#8, 0x10#8, 0x11#8, 0x13#8, 0x20#8, 0x21#8, 0x22#8, 0x23#8, 0x30#8, 0x31#8,
      0x32#8, 0x40#8, 0x41#8] →
    ∃ t, runCommand w s = .next t ∧
      t = { s with code := .eIllcmd, lastop := w.extractLsb' 0 8, sticky := s.sticky ||| 0x01#6 } ∧
      regRead t .result = (0#16 ++ w.extractLsb' 0 8) ++ 0x01#8

/-- A word with a reserved bit set, or with an `ARG` bit its command does not use, is illegal in the same way (R105). -/
def Obligations.ReservedBitsAreIllegal : Prop :=
  ∀ (s : State) (w : Word),
    (w.extractLsb' 16 16 ≠ 0#16 ∨
      (w.extractLsb' 0 8 ∈ [0x00#8, 0x10#8, 0x11#8, 0x20#8, 0x21#8, 0x22#8, 0x23#8, 0x30#8, 0x31#8, 0x32#8, 0x40#8,
          0x41#8] ∧ w.extractLsb' 8 8 ≠ 0#8) ∨
      (w.extractLsb' 0 8 = 0x01#8 ∧ w.extractLsb' 13 3 ≠ 0#3) ∨
      (w.extractLsb' 0 8 = 0x13#8 ∧ w.extractLsb' 9 7 ≠ 0#7)) →
    runCommand w s =
      .next { s with code := .eIllcmd, lastop := w.extractLsb' 0 8, sticky := s.sticky ||| 0x01#6 }

/-! ## The register window (10_state.md, 20_memory.md) -/

/-- A wrong size, a misaligned offset, a hole or an offset outside the window ends with `BusError`: `STICKY.BUSERR` is set
and nothing else changes; no command runs (R42, R74, R75, R80, R297). `pending` and `response` are the model's own view
of the bus (assumption log 1). -/
def Obligations.MisdirectedAccessIsBusError : Prop :=
  ∀ (s : State) (e : HostEvent) (rest : List HostEvent) (off size : Nat),
    s.pending = e :: rest → (e = .read off size ∨ ∃ v, e = .write off size v) →
    (size ≠ 4 ∨ off % 4 ≠ 0 ∨ off = 0x03C ∨ off = 0x098 ∨ off = 0x09C ∨ 0x180 ≤ off) →
    step s = .next { s with pending := rest, response := .busError off, sticky := s.sticky ||| 0x08#6 }

/-- A read of a register returns its value and changes nothing (R76); `CMD` and `KEY` read 0 (R22, R35), `ID` its
constant (R21), the others their storage. The live words are `StatusRegisterBits` and `CursorRegisterFields`. `pending`
and `response` are the model's own view of the bus (assumption log 1). -/
def Obligations.ReadReturnsRegister : Prop :=
  (∀ (s : State) (rest : List HostEvent) (r : Reg), s.pending = .read (regOffset r) 4 :: rest →
    step s = .next { s with pending := rest, response := .data (regRead s r) }) ∧
  (∀ s : State,
    regRead s .id = 0x4C444331#32 ∧ regRead s .cmd = 0#32 ∧ (∀ i, regRead s (.key i) = 0#32) ∧
    regRead s .result = (0#16 ++ s.lastop) ++ codeByte s.code ∧
    (∀ k, (regRead s .sticky).getLsbD k = s.sticky.getLsbD k) ∧
    (regRead s .len).toNat = s.len.toNat ∧ (regRead s .klen).toNat = s.klen.toNat ∧
    (regRead s .nlen).toNat = s.nlen.toNat ∧ (regRead s .outlen).toNat = s.outlen.toNat ∧
    (regRead s .xtlen).toNat = s.xtlen.toNat ∧ regRead s .ctr = s.ctr ∧
    regRead s .ccCtr = s.cc.st[12] ∧ regRead s .xsCtrl = s.xs.st[8] ∧ regRead s .xsCtrh = s.xs.st[9] ∧
    (∀ i, regRead s (.nonce i) = s.nonce[i]) ∧ (∀ i, regRead s (.xtag i) = s.xtag[i]) ∧
    (∀ i, regRead s (.tag i) = s.tag[i]) ∧ (∀ i, regRead s (.digest i) = s.digest[i]) ∧
    (∀ i j, j < 4 → wordByte (regRead s (.buf i)) j = bufB s (4 * i.val + j)))

/-- A write of a register other than `CMD` (R77): the length registers keep `v[7:0]`, `STICKY` is cleared by ones, the
staging words take `v`, a read-only register ignores the write. `pending` and `response` are the model's own view of the
bus (assumption log 1). -/
def Obligations.WriteStoresRegister : Prop :=
  (∀ (s : State) (rest : List HostEvent) (r : Reg) (v : Word), r ≠ .cmd → s.pending = .write (regOffset r) 4 v :: rest →
    step s = .next { regWrite s v r with pending := rest, response := .written }) ∧
  (∀ (s : State) (v : Word),
    regWrite s v .sticky = { s with sticky := s.sticky &&& ~~~(v.extractLsb' 0 6) } ∧
    regWrite s v .len = { s with len := v.extractLsb' 0 8 } ∧ regWrite s v .klen = { s with klen := v.extractLsb' 0 8 } ∧
    regWrite s v .nlen = { s with nlen := v.extractLsb' 0 8 } ∧
    regWrite s v .outlen = { s with outlen := v.extractLsb' 0 8 } ∧
    regWrite s v .xtlen = { s with xtlen := v.extractLsb' 0 8 } ∧ regWrite s v .ctr = { s with ctr := v } ∧
    (∀ i, regWrite s v (.key i) = { s with key := s.key.set i v }) ∧
    (∀ i, regWrite s v (.nonce i) = { s with nonce := s.nonce.set i v }) ∧
    (∀ i, regWrite s v (.xtag i) = { s with xtag := s.xtag.set i v }) ∧
    (∀ i, regWrite s v (.buf i) = { s with
      buf := Vector.ofFn fun k : Fin 128 => if k.val / 4 = i.val then wordByte v (k.val % 4) else s.buf[k] }) ∧
    (∀ r ∈ [Reg.id, Reg.result, Reg.status, Reg.ccCtr, Reg.xsCtrl, Reg.xsCtrh, Reg.cursor], regWrite s v r = s) ∧
    (∀ i, regWrite s v (.tag i) = s) ∧ (∀ i, regWrite s v (.digest i) = s))

/-- The layout of the window (R71, the table of 10_state.md section 2): every register is found at the offset the table
gives it and nowhere else; the aligned offsets below 512 that hold no register are the holes of R42. -/
def Obligations.WindowLayout : Prop :=
  (regOffset .id = 0x000 ∧ regOffset .cmd = 0x004 ∧ regOffset .result = 0x008 ∧ regOffset .status = 0x00C ∧
    regOffset .sticky = 0x010 ∧ regOffset .len = 0x014 ∧ regOffset .klen = 0x018 ∧ regOffset .nlen = 0x01C ∧
    regOffset .outlen = 0x020 ∧ regOffset .xtlen = 0x024 ∧ regOffset .ctr = 0x028 ∧ regOffset .ccCtr = 0x02C ∧
    regOffset .xsCtrl = 0x030 ∧ regOffset .xsCtrh = 0x034 ∧ regOffset .cursor = 0x038 ∧
    (∀ i, regOffset (.key i) = 0x040 + 4 * i.val) ∧ (∀ i, regOffset (.nonce i) = 0x080 + 4 * i.val) ∧
    (∀ i, regOffset (.xtag i) = 0x0A0 + 4 * i.val) ∧ (∀ i, regOffset (.tag i) = 0x0B0 + 4 * i.val) ∧
    (∀ i, regOffset (.digest i) = 0x0C0 + 4 * i.val) ∧ (∀ i, regOffset (.buf i) = 0x100 + 4 * i.val)) ∧
  (∀ r, regAt (regOffset r) = some r) ∧ (∀ off r, regAt off = some r → regOffset r = off) ∧
  (∀ off, off < 512 → off % 4 = 0 →
    (regAt off = none ↔ off = 0x03C ∨ off = 0x098 ∨ off = 0x09C ∨ (0x180 ≤ off ∧ off ≤ 0x1FC)))

/-- `STATUS` is the live value of ten flags, has no storage, and ignores host writes (R24). -/
def Obligations.StatusRegisterBits : Prop :=
  ∀ s : State,
    (regRead s .status).getLsbD 0 = s.cc.valid ∧ (regRead s .status).getLsbD 1 = s.cc.gate ∧
    (regRead s .status).getLsbD 2 = s.pl.valid ∧ (regRead s .status).getLsbD 3 = s.pl.done ∧
    (regRead s .status).getLsbD 4 = s.pl.link ∧ (regRead s .status).getLsbD 5 = s.auth.ok ∧
    (regRead s .status).getLsbD 6 = s.auth.fail ∧ (regRead s .status).getLsbD 7 = s.b2.valid ∧
    (regRead s .status).getLsbD 8 = s.b2.done ∧ (regRead s .status).getLsbD 9 = s.xs.valid ∧
    (∀ k, 10 ≤ k → (regRead s .status).getLsbD k = false) ∧ (∀ v, regWrite s v .status = s)

/-- `CURSOR` shows the four fill levels, each in its field, the bits between them 0, and ignores writes (R34). The
premises are the ranges R43 to R46 give those levels. -/
def Obligations.CursorRegisterFields : Prop :=
  ∀ s : State, s.cc.avail ≤ 64 → s.xs.avail ≤ 64 → s.pl.lfill ≤ 15 → s.b2.fill ≤ 128 →
    ((regRead s .cursor).extractLsb' 0 7).toNat = s.cc.avail ∧ (regRead s .cursor).getLsbD 7 = false ∧
    ((regRead s .cursor).extractLsb' 8 7).toNat = s.xs.avail ∧ (regRead s .cursor).getLsbD 15 = false ∧
    ((regRead s .cursor).extractLsb' 16 5).toNat = s.pl.lfill ∧ (regRead s .cursor).extractLsb' 21 3 = 0#3 ∧
    ((regRead s .cursor).extractLsb' 24 8).toNat = s.b2.fill ∧ (∀ v, regWrite s v .cursor = s)

/-- `CC_CTR`, `XS_CTRL`, `XS_CTRH` are the block counters, 0 while the context is invalid, and ignore writes (R32, R33).
The premise is the invariant of `StepKeepsInvariant`. -/
def Obligations.CounterRegistersAreLive : Prop :=
  ∀ s : State, s.Inv →
    regRead s .ccCtr = s.cc.st[12] ∧ regRead s .xsCtrl = s.xs.st[8] ∧ regRead s .xsCtrh = s.xs.st[9] ∧
    (s.cc.valid = false → regRead s .ccCtr = 0#32) ∧
    (s.xs.valid = false → regRead s .xsCtrl = 0#32 ∧ regRead s .xsCtrh = 0#32) ∧
    (∀ v, regWrite s v .ccCtr = s ∧ regWrite s v .xsCtrl = s ∧ regWrite s v .xsCtrh = s)

/-- The sticky discipline over every step: a bit is cleared only by a host write of a 1 in its place or by reset, and set
only by its own event: a command completing with a code of its class (bits 0 to 2), a bus error (bit 3), a `CC_XOR` whose
block counter passes 2^32 − 1 (bit 4), an `XS_XOR` whose block counter passes 2^64 − 1 (bit 5) (R25, R80, R168, R236, R290,
R291). `avail` ≤ 64 is its range in R43 and R46. `pending` and `response` are the model's own view of the bus (assumption
log 1). -/
def Obligations.StickyChangesOnlyByItsEvents : Prop :=
  ∀ (s t : State) (k : Nat), step s = .next t →
    (s.sticky.getLsbD k = true → t.sticky.getLsbD k = false →
      (∃ rest, s.pending = .reset :: rest) ∨
      (∃ v rest, s.pending = .write 0x010 4 v :: rest ∧ v.getLsbD k = true)) ∧
    (s.sticky.getLsbD k = false → t.sticky.getLsbD k = true →
      (k = 3 ∧ ∃ off, t.response = .busError off) ∨
      (∃ w rest, s.pending = .write 0x004 4 w :: rest ∧
        ((k = 0 ∧ codeByte t.code ∈ [0x01#8, 0x02#8, 0x03#8, 0x04#8]) ∨
          (k = 1 ∧ codeByte t.code ∈ [0x10#8, 0x11#8, 0x12#8, 0x13#8]) ∨
          (k = 2 ∧ codeByte t.code = 0x20#8) ∨
          (k = 4 ∧ decode w = .ok .ccXor ∧ t.code = .ok ∧
            (s.cc.avail ≤ 64 → 2 ^ 32 ≤ s.cc.st[12].toNat + blocksNeeded s.cc.avail s.len.toNat)) ∨
          (k = 5 ∧ decode w = .ok .xsXor ∧ t.code = .ok ∧
            (s.xs.avail ≤ 64 → 2 ^ 64 ≤ (xsCounter s.xs).toNat + blocksNeeded s.xs.avail s.len.toNat)))))

/-! ## Completion and errors (60_exceptions.md) -/

/-- Every command ends by `complete`: `RESULT` holds its opcode and its code, the code's class bit of `STICKY` is set and
no other of bits 0 to 3 changes (R290). That a command leaves `pending` and
`response` alone is about the model's own view of the bus (assumption log 1), not a rule. -/
def Obligations.EveryCommandCompletes : Prop :=
  ∀ (i : Instr) (s : State), ∃ t, exec i s = .next t ∧ t.lastop = opcodeOf i ∧
    regRead t .result = (0#16 ++ opcodeOf i) ++ codeByte t.code ∧
    t.sticky.getLsbD 0 = (s.sticky.getLsbD 0 || decide (codeByte t.code ∈ [0x01#8, 0x02#8, 0x03#8, 0x04#8])) ∧
    t.sticky.getLsbD 1 = (s.sticky.getLsbD 1 || decide (codeByte t.code ∈ [0x10#8, 0x11#8, 0x12#8, 0x13#8])) ∧
    t.sticky.getLsbD 2 = (s.sticky.getLsbD 2 || decide (codeByte t.code = 0x20#8)) ∧
    t.sticky.getLsbD 3 = s.sticky.getLsbD 3 ∧ t.pending = s.pending ∧ t.response = s.response

/-- The byte of every completion code is the one R292 gives it, `RESULT` shows it in its low byte (R23), and each command
reports the first failing check of its fixed order, `OK` if none fails (R295). -/
def Obligations.CommandChecksInOrder : Prop :=
  (codeByte .ok = 0x00#8 ∧ codeByte .eIllcmd = 0x01#8 ∧ codeByte .eState = 0x02#8 ∧ codeByte .eGated = 0x03#8 ∧
    codeByte .eLen = 0x04#8 ∧ codeByte .eKeylen = 0x10#8 ∧ codeByte .eNoncelen = 0x11#8 ∧ codeByte .eOutlen = 0x12#8 ∧
    codeByte .eTaglen = 0x13#8 ∧ codeByte .eAuth = 0x20#8) ∧
  (∀ s : State, (regRead s .result).extractLsb' 0 8 = codeByte s.code) ∧
  ∀ s t : State,
    (exec .nop s = .next t → t.code = .ok) ∧
    (∀ arg, zeroizeArgLegal arg = true → exec (.zeroize arg) s = .next t → t.code = .ok) ∧
    (exec .ccInit s = .next t →
      t.code = if s.klen.toNat ≠ 32 then .eKeylen else if s.nlen.toNat ≠ 12 then .eNoncelen else .ok) ∧
    (exec .xsInit s = .next t →
      t.code = if s.klen.toNat ≠ 32 then .eKeylen else if s.nlen.toNat ≠ 24 then .eNoncelen else .ok) ∧
    (exec .plInit s = .next t → t.code = if s.klen.toNat ≠ 32 then .eKeylen else .ok) ∧
    (exec .b2Init s = .next t →
      t.code = if s.outlen.toNat = 0 ∨ 64 < s.outlen.toNat then .eOutlen else if 64 < s.klen.toNat then .eKeylen else .ok) ∧
    (exec .ccXor s = .next t →
      t.code = if s.cc.valid = false then .eState else if s.cc.gate = true then .eGated
        else if 128 < s.len.toNat then .eLen else .ok) ∧
    (exec .xsXor s = .next t →
      t.code = if s.xs.valid = false then .eState else if 128 < s.len.toNat then .eLen else .ok) ∧
    (exec .plUpdate s = .next t →
      t.code = if s.pl.valid = false then .eState else if 128 < s.len.toNat then .eLen else .ok) ∧
    (exec .b2Update s = .next t →
      t.code = if s.b2.valid = false then .eState else if 128 < s.len.toNat then .eLen else .ok) ∧
    (exec .plFinish s = .next t → t.code = if s.pl.valid = false then .eState else .ok) ∧
    (exec .b2Final s = .next t → t.code = if s.b2.valid = false then .eState else .ok) ∧
    (∀ arg, polykeyArgLegal arg = true → exec (.ccPolykey arg) s = .next t →
      t.code = if s.cc.valid = false then .eState else .ok) ∧
    (exec .plVerify s = .next t →
      t.code = if s.pl.done = false then .eState else if s.xtlen.toNat ≠ 16 then .eTaglen
        else if s.tag = s.xtag then .ok else .eAuth)

/-- What each error leaves behind, in the three patterns of R294: a data or finish command, a `PL_VERIFY` with `E_STATE` or
`E_TAGLEN` and an illegal word change nothing but `RESULT` and `STICKY`; a failed initialisation leaves its own context
zeroised and `KEY` cleared; a failed `PL_VERIFY` destroys `pl`, and `cc` if linked. -/
def Obligations.ErrorsLeaveStateAsStated : Prop :=
  ∀ s t : State, t.code ≠ .ok →
    (∀ i ∈ [Instr.ccXor, Instr.xsXor, Instr.plUpdate, Instr.plFinish, Instr.b2Update, Instr.b2Final],
      exec i s = .next t →
      t = { s with code := t.code, lastop := opcodeOf i, sticky := s.sticky ||| 0x01#6 }) ∧
    (∀ arg, exec (.ccPolykey arg) s = .next t →
      t = { s with code := t.code, lastop := 0x13#8, sticky := s.sticky ||| 0x01#6 }) ∧
    (∀ w e, decode w = .error e → runCommand w s = .next t →
      t = { s with code := .eIllcmd, lastop := w.extractLsb' 0 8, sticky := s.sticky ||| 0x01#6 }) ∧
    (exec .plVerify s = .next t → t.code = .eState →
      t = { s with code := .eState, lastop := 0x23#8, sticky := s.sticky ||| 0x01#6 }) ∧
    (exec .plVerify s = .next t → t.code = .eTaglen →
      t = { s with code := .eTaglen, lastop := 0x23#8, sticky := s.sticky ||| 0x02#6 }) ∧
    (exec .plVerify s = .next t → t.code = .eAuth →
      t = { s with
        code := .eAuth, lastop := 0x23#8, sticky := s.sticky ||| 0x04#6, pl := PL.zero, tag := Vector.replicate 4 0,
        auth := { ok := false, fail := true }, cc := if s.pl.link = true then CC.zero else s.cc }) ∧
    (exec .ccInit s = .next t →
      t = { s with
        code := t.code, lastop := 0x10#8, sticky := s.sticky ||| 0x02#6, key := Vector.replicate 16 0, cc := CC.zero,
        pl := { s.pl with link := false } }) ∧
    (exec .plInit s = .next t →
      t = { s with
        code := t.code, lastop := 0x20#8, sticky := s.sticky ||| 0x02#6, key := Vector.replicate 16 0, pl := PL.zero,
        tag := Vector.replicate 4 0, auth := Auth.zero }) ∧
    (exec .b2Init s = .next t →
      t = { s with
        code := t.code, lastop := 0x30#8, sticky := s.sticky ||| 0x02#6, key := Vector.replicate 16 0, b2 := B2.zero,
        digest := Vector.replicate 16 0 }) ∧
    (exec .xsInit s = .next t →
      t = { s with
        code := t.code, lastop := 0x40#8, sticky := s.sticky ||| 0x02#6, key := Vector.replicate 16 0, xs := XS.zero })

/-- Every command whose rule reads `KEY` leaves it cleared, whatever its completion code; every other command but
`ZEROIZE` leaves it as it was; a host read of any word of `KEY` returns 0 (R35). -/
def Obligations.KeyIsConsumedByKeyCommands : Prop :=
  ∀ (i : Instr) (s t : State), exec i s = .next t →
    (i ∈ [Instr.ccInit, Instr.plInit, Instr.xsInit, Instr.b2Init] → t.key = Vector.replicate 16 0) ∧
    (i ∉ [Instr.ccInit, Instr.plInit, Instr.xsInit, Instr.b2Init] → (∀ arg, i ≠ .zeroize arg) → t.key = s.key) ∧
    (∀ j, regRead t (.key j) = 0#32)

/-- Each command writes only the state the writes column of R102 gives it (beside `RESULT` and the class bits of `STICKY`):
the frame of every command, on every path, errors included. `PL_VERIFY` writes `cc.gate` only on a match while linked, and
`pl`, `TAG` and a linked `cc` only on a mismatch; `ZEROIZE` writes only what its mask bits select. `pending` and
`response` are the model's own view of the bus (assumption log 1). -/
def Obligations.CommandWritesOnlyItsState : Prop :=
  (∀ (arg : Byte) (s t : State), exec (.zeroize arg) s = .next t →
    (t.pending = s.pending ∧ t.response = s.response ∧ t.sticky.getLsbD 4 = s.sticky.getLsbD 4 ∧
      t.sticky.getLsbD 5 = s.sticky.getLsbD 5) ∧
    (arg.getLsbD 0 = false → t.cc = s.cc) ∧
    (arg.getLsbD 1 = false → t.tag = s.tag ∧ t.auth = s.auth ∧ t.pl = { s.pl with link := t.pl.link }) ∧
    (arg.getLsbD 0 = false → arg.getLsbD 1 = false → t.pl = s.pl) ∧
    (arg.getLsbD 2 = false → t.b2 = s.b2 ∧ t.digest = s.digest) ∧
    (arg.getLsbD 3 = false → t.xs = s.xs) ∧
    (arg.getLsbD 4 = false → t.key = s.key ∧ t.nonce = s.nonce ∧ t.xtag = s.xtag ∧ t.buf = s.buf ∧ t.len = s.len ∧
      t.klen = s.klen ∧ t.nlen = s.nlen ∧ t.outlen = s.outlen ∧ t.xtlen = s.xtlen ∧ t.ctr = s.ctr)) ∧
  ∀ (i : Instr) (s t : State), (∀ arg, i ≠ .zeroize arg) → exec i s = .next t →
    (t.len = s.len ∧ t.klen = s.klen ∧ t.nlen = s.nlen ∧ t.outlen = s.outlen ∧ t.xtlen = s.xtlen ∧ t.ctr = s.ctr ∧
      t.nonce = s.nonce ∧ t.xtag = s.xtag ∧ t.pending = s.pending ∧ t.response = s.response) ∧
    (i ∉ [Instr.ccInit, Instr.plInit, Instr.xsInit, Instr.b2Init] → t.key = s.key) ∧
    (i ∉ [Instr.ccXor, Instr.xsXor] → t.buf = s.buf) ∧
    (i ∈ [Instr.ccXor, Instr.xsXor] → ∀ j, s.len.toNat ≤ j → bufB t j = bufB s j) ∧
    (i ∉ [Instr.ccInit, Instr.ccXor, Instr.plVerify] → (∀ arg, i ≠ .ccPolykey arg) → t.cc = s.cc) ∧
    (i = .ccXor ∨ (∃ arg, i = .ccPolykey arg) →
      t.cc.valid = s.cc.valid ∧ ∀ j : Fin 16, j ≠ 12 → t.cc.st[j] = s.cc.st[j]) ∧
    (i = .ccXor → t.cc.gate = s.cc.gate) ∧
    (i ≠ .ccXor → t.sticky.getLsbD 4 = s.sticky.getLsbD 4) ∧ (i ≠ .xsXor → t.sticky.getLsbD 5 = s.sticky.getLsbD 5) ∧
    (i = .plVerify → s.pl.link = false → t.cc = s.cc) ∧
    (i = .plVerify → t.code = .ok → t.cc = { s.cc with gate := t.cc.gate } ∧ t.pl = s.pl ∧ t.tag = s.tag) ∧
    (i = .plVerify → t.code ≠ .ok → t.code ≠ .eAuth → t.cc = s.cc ∧ t.pl = s.pl ∧ t.tag = s.tag ∧ t.auth = s.auth) ∧
    (i ∉ [Instr.ccInit, Instr.plInit, Instr.plUpdate, Instr.plFinish, Instr.plVerify] → (∀ arg, i ≠ .ccPolykey arg) →
      t.pl = s.pl) ∧
    (i = .ccInit → t.pl = { s.pl with link := false }) ∧
    (i = .plUpdate → t.pl = { s.pl with h := t.pl.h, lbuf := t.pl.lbuf, lfill := t.pl.lfill }) ∧
    (i ∉ [Instr.plInit, Instr.plFinish, Instr.plVerify] → (∀ arg, i ≠ .ccPolykey arg) → t.tag = s.tag ∧ t.auth = s.auth) ∧
    (i ∉ [Instr.b2Init, Instr.b2Update, Instr.b2Final] → t.b2 = s.b2) ∧
    (i = .b2Update → t.b2 = { s.b2 with h := t.b2.h, t := t.b2.t, buf := t.b2.buf, fill := t.b2.fill }) ∧
    (i ∉ [Instr.b2Init, Instr.b2Final] → t.digest = s.digest) ∧
    (i ∉ [Instr.xsInit, Instr.xsXor] → t.xs = s.xs) ∧
    (i = .xsXor → t.xs.valid = s.xs.valid ∧ ∀ j : Fin 16, j ≠ 8 → j ≠ 9 → t.xs.st[j] = s.xs.st[j])

/-! ## System commands (46_system.md) -/

/-- `NOP` completes `OK` and changes nothing else; it does write `RESULT` (R280). -/
def Obligations.NopCompletes : Prop :=
  decode 0x00000000#32 = .ok .nop ∧
  ∀ s : State, ∃ t, exec .nop s = .next t ∧ t = { s with code := .ok, lastop := 0x00#8 } ∧ regRead t .result = 0#32

/-- `ZEROIZE` clears exactly what its mask bits select and completes `OK`; `STICKY` is not changed; the word of every legal
mask decodes to it (R281). -/
def Obligations.ZeroizeDestroysSelected : Prop :=
  ∀ (arg : Byte) (s : State), arg.extractLsb' 5 3 = 0#3 →
    decode (0x00000001#32 + (arg.zeroExtend 32 <<< 8)) = .ok (.zeroize arg) ∧
    exec (.zeroize arg) s = .next { s with
      code := .ok
      lastop := 0x01#8
      cc := if arg.getLsbD 0 then CC.zero else s.cc
      pl := if arg.getLsbD 1 then PL.zero else if arg.getLsbD 0 then { s.pl with link := false } else s.pl
      tag := if arg.getLsbD 1 then Vector.replicate 4 0 else s.tag
      auth := if arg.getLsbD 1 then { ok := false, fail := false } else s.auth
      b2 := if arg.getLsbD 2 then B2.zero else s.b2
      digest := if arg.getLsbD 2 then Vector.replicate 16 0 else s.digest
      xs := if arg.getLsbD 3 then XS.zero else s.xs
      key := if arg.getLsbD 4 then Vector.replicate 16 0 else s.key
      nonce := if arg.getLsbD 4 then Vector.replicate 6 0 else s.nonce
      xtag := if arg.getLsbD 4 then Vector.replicate 4 0 else s.xtag
      buf := if arg.getLsbD 4 then Vector.replicate 128 0 else s.buf
      len := if arg.getLsbD 4 then 0#8 else s.len
      klen := if arg.getLsbD 4 then 0#8 else s.klen
      nlen := if arg.getLsbD 4 then 0#8 else s.nlen
      outlen := if arg.getLsbD 4 then 0#8 else s.outlen
      xtlen := if arg.getLsbD 4 then 0#8 else s.xtlen
      ctr := if arg.getLsbD 4 then 0#32 else s.ctr }

/-- After `ZEROIZE_ALL` the device state is the reset state but for `RESULT` = 0x00000100 and `STICKY` (R287). The fields
`pending` and `response` are the model's own. -/
def Obligations.ZeroizeAllLeavesResetState : Prop :=
  ∀ s : State, ∃ t, exec (.zeroize 0x1F#8) s = .next t ∧ regRead t .result = 0x00000100#32 ∧
    t = { State.reset with lastop := 0x01#8, sticky := s.sticky, pending := s.pending, response := s.response }

/-! ## ChaCha20 (40_primitives.md, 41_chacha20.md) -/

/-- `CC_INIT` (R160): with a 32-byte key and a 12-byte nonce it builds the context from `KEY`, `CTR`, `NONCE`, clears
`KEY` and the link; with another key length, else another nonce length, it leaves the context all zero. -/
def Obligations.CcInitBuildsContext : Prop :=
  decode 0x00000010#32 = .ok .ccInit ∧
  ∀ s : State,
    (s.klen.toNat = 32 → s.nlen.toNat = 12 →
      exec .ccInit s = .next { s with
        code := .ok, lastop := 0x10#8, key := Vector.replicate 16 0, pl := { s.pl with link := false },
        cc := {
          valid := true, gate := false, avail := 0, blk := Vector.replicate 64 0,
          st := #v[0x61707865#32, 0x3320646E#32, 0x79622D32#32, 0x6B206574#32,
            s.key[0], s.key[1], s.key[2], s.key[3], s.key[4], s.key[5], s.key[6], s.key[7],
            s.ctr, s.nonce[0], s.nonce[1], s.nonce[2]] } }) ∧
    (s.klen.toNat ≠ 32 →
      exec .ccInit s = .next { s with
        code := .eKeylen, lastop := 0x10#8, sticky := s.sticky ||| 0x02#6, key := Vector.replicate 16 0, cc := CC.zero,
        pl := { s.pl with link := false } }) ∧
    (s.klen.toNat = 32 → s.nlen.toNat ≠ 12 →
      exec .ccInit s = .next { s with
        code := .eNoncelen, lastop := 0x10#8, sticky := s.sticky ||| 0x02#6, key := Vector.replicate 16 0, cc := CC.zero,
        pl := { s.pl with link := false } })

/-- `CC_XOR` (R161): the first `LEN` bytes of `BUF` are XORed with the next `LEN` keystream bytes, the rest of `BUF` is
unchanged, blocks are generated only as needed, the counter advances once per block and its wrap sets `STICKY.CC_WRAP`;
without a valid context, with the gate closed, or with `LEN` > 128, in that priority, nothing but `RESULT` and
`STICKY.USEERR` changes. `avail` ≤ 64 is its range in R43. -/
def Obligations.CcXorProducesKeystream : Prop :=
  decode 0x00000011#32 = .ok .ccXor ∧
  ∀ s : State,
    (s.cc.valid = true → s.cc.gate = false → s.len.toNat ≤ 128 → s.cc.avail ≤ 64 →
      exec .ccXor s = .next { s with
        code := .ok
        lastop := 0x11#8
        sticky := if 2 ^ 32 ≤ s.cc.st[12].toNat + blocksNeeded s.cc.avail s.len.toNat then s.sticky ||| 0x10#6
          else s.sticky
        buf := Vector.ofFn fun j : Fin 128 =>
          if j.val < s.len.toNat then s.buf[j] ^^^ ccKeystream s.cc j.val else s.buf[j]
        cc := { s.cc with
          st := ccAdvance s.cc.st (blocksNeeded s.cc.avail s.len.toNat)
          blk := if blocksNeeded s.cc.avail s.len.toNat = 0 then s.cc.blk
            else ccBlock (ccAdvance s.cc.st (blocksNeeded s.cc.avail s.len.toNat - 1))
          avail := availAfter s.cc.avail s.len.toNat } }) ∧
    (s.cc.valid = false →
      exec .ccXor s = .next { s with code := .eState, lastop := 0x11#8, sticky := s.sticky ||| 0x01#6 }) ∧
    (s.cc.valid = true → s.cc.gate = true →
      exec .ccXor s = .next { s with code := .eGated, lastop := 0x11#8, sticky := s.sticky ||| 0x01#6 }) ∧
    (s.cc.valid = true → s.cc.gate = false → 128 < s.len.toNat →
      exec .ccXor s = .next { s with code := .eLen, lastop := 0x11#8, sticky := s.sticky ||| 0x01#6 })

/-- However a byte string is cut into `CC_XOR` chunks of at most 128 bytes, the output bytes of the last chunk `c` are the
keystream's at its place in the whole string, and cursor, counter, block and wrap flag depend only on the number of bytes
(R164, R166, R343). Every chunk of a longer cut is the last one of a shorter, so this gives every output byte. -/
def Obligations.CcStreamOfAnyChunking : Prop :=
  ∀ (s : State) (cs : List (List Byte)) (c : List Byte), s.cc.valid = true → s.cc.gate = false → s.cc.avail ≤ 64 →
    c.length ≤ 128 → (∀ d ∈ cs, d.length ≤ 128) →
    ∃ t, execChunks .ccXor (cs ++ [c]) s = .next t ∧
      (∀ j, j < c.length → bufB t j = c.getD j 0 ^^^ ccKeystream s.cc (cs.flatten.length + j)) ∧
      t.cc = { s.cc with
        st := ccAdvance s.cc.st (blocksNeeded s.cc.avail (cs.flatten.length + c.length))
        blk := if blocksNeeded s.cc.avail (cs.flatten.length + c.length) = 0 then s.cc.blk
          else ccBlock (ccAdvance s.cc.st (blocksNeeded s.cc.avail (cs.flatten.length + c.length) - 1))
        avail := availAfter s.cc.avail (cs.flatten.length + c.length) } ∧
      t.sticky = if 2 ^ 32 ≤ s.cc.st[12].toNat + blocksNeeded s.cc.avail (cs.flatten.length + c.length)
        then s.sticky ||| 0x10#6 else s.sticky

/-- Decryption is encryption: a `CC_XOR` that completes `OK`, repeated on its own output with the context put back to
where it was, restores every byte of `BUF` (R166). -/
def Obligations.CcXorInvolution : Prop :=
  ∀ s t : State, s.cc.avail ≤ 64 → exec .ccXor s = .next t → t.code = .ok →
    ∃ u, exec .ccXor { t with cc := s.cc } = .next u ∧ u.code = .ok ∧ u.buf = s.buf ∧ u.cc = t.cc

/-- The ChaCha20 and Salsa20 quarter-rounds and the BLAKE2b mixing function change only the four words they name (R139,
R143, R154). -/
def Obligations.MixingTouchesFourWords : Prop :=
  ∀ (a b c d k : Fin 16), k ∉ [a, b, c, d] →
    (∀ x : Vector Word 16, (ccqr x a b c d)[k] = x[k]) ∧ (∀ x : Vector Word 16, (saqr x a b c d)[k] = x[k]) ∧
    (∀ (v : Vector DWord 16) (m n : DWord), (b2G v a b c d m n)[k] = v[k])

/-- Two quarter-rounds, or two mixings, on disjoint words commute: any order, or all at once, gives the same vector (R142,
R146, R155). -/
def Obligations.DisjointMixingCommutes : Prop :=
  ∀ (a b c d e f g h : Fin 16), (∀ k ∈ [a, b, c, d], k ∉ [e, f, g, h]) →
    (∀ x : Vector Word 16, ccqr (ccqr x a b c d) e f g h = ccqr (ccqr x e f g h) a b c d) ∧
    (∀ x : Vector Word 16, saqr (saqr x a b c d) e f g h = saqr (saqr x e f g h) a b c d) ∧
    (∀ (v : Vector DWord 16) (m n p q : DWord),
      b2G (b2G v a b c d m n) e f g h p q = b2G (b2G v e f g h p q) a b c d m n)

/-! ## AEAD (43_aead.md) -/

/-- `CC_POLYKEY` (R210): the one-time key is the first 32 bytes of block 0; the Poly1305 context is loaded with it and
linked; the cipher stands at the start of block 1; the gate is `OPEN`. Without a valid ChaCha20 context nothing changes
but `RESULT` and `STICKY.USEERR`. -/
def Obligations.PolykeyLoadsOneTimeKey : Prop :=
  decode 0x00000013#32 = .ok (.ccPolykey 0x00#8) ∧ decode 0x00000113#32 = .ok (.ccPolykey 0x01#8) ∧
  ∀ (arg : Byte) (s : State), arg.extractLsb' 1 7 = 0#7 →
    (s.cc.valid = true →
      exec (.ccPolykey arg) s = .next { s with
        code := .ok
        lastop := 0x13#8
        tag := Vector.replicate 4 0
        auth := { ok := false, fail := false }
        pl := {
          valid := true, done := false, link := true, h := 0, lfill := 0, lbuf := Vector.replicate 16 0
          r := BitVec.ofNat 128 (leint ((ccBlock (s.cc.st.set 12 0)).toList.take 16)) &&&
            0x0FFFFFFC0FFFFFFC0FFFFFFC0FFFFFFF#128
          pad := BitVec.ofNat 128 (leint (((ccBlock (s.cc.st.set 12 0)).toList.drop 16).take 16)) }
        cc := { s.cc with
          st := s.cc.st.set 12 1, blk := Vector.replicate 64 0, avail := 0, gate := arg.getLsbD 0 } }) ∧
    (s.cc.valid = false →
      exec (.ccPolykey arg) s = .next { s with code := .eState, lastop := 0x13#8, sticky := s.sticky ||| 0x01#6 })

/-- `CC_INIT` with `KEY` and `NONCE`, then `CC_POLYKEY`: the Poly1305 key is the one-time key of the (key, nonce) pair and
the keystream from there on is `KS(key, nonce)`, from block 1, whatever `CTR` was (R210, R216). -/
def Obligations.PolykeyPositionsKeystream : Prop :=
  ∀ (arg : Byte) (s : State), arg.extractLsb' 1 7 = 0#7 → s.klen.toNat = 32 → s.nlen.toNat = 12 →
    ∃ t u, exec .ccInit s = .next t ∧ exec (.ccPolykey arg) t = .next u ∧
      u.pl = { polyLoad (oneTimeKey (bytesOf 32 (keyB s)) (bytesOf 12 (nonceB s))) with link := true } ∧
      u.cc.valid = true ∧ u.cc.gate = arg.getLsbD 0 ∧
      ∀ i, ccKeystream u.cc i = aeadKeystream (bytesOf 32 (keyB s)) (bytesOf 12 (nonceB s)) i

/-- The complete list of writers of `cc.gate` (R211): if a step changes the gate, it was a reset, a `CC_INIT`, a `ZEROIZE`
with `CC`, a `PL_VERIFY` while linked (each leaves it 0), or a `CC_POLYKEY` completing `OK` (it becomes `ARG[0]`). The step's
transaction is the head of the model's own `pending` (assumption log 1). -/
def Obligations.GateChangesOnlyByItsWriters : Prop :=
  ∀ s t : State, step s = .next t → t.cc.gate ≠ s.cc.gate →
    ((∃ rest, s.pending = .reset :: rest) ∧ t.cc.gate = false) ∨
    ∃ w rest, s.pending = .write 0x004 4 w :: rest ∧
      ((decode w = .ok .ccInit ∧ t.cc.gate = false) ∨
        (∃ arg, decode w = .ok (.zeroize arg) ∧ arg.getLsbD 0 = true ∧ t.cc.gate = false) ∨
        (∃ arg, decode w = .ok (.ccPolykey arg) ∧ t.code = .ok ∧ t.cc.gate = arg.getLsbD 0) ∨
        (decode w = .ok .plVerify ∧ s.pl.link = true ∧ (t.code = .ok ∨ t.code = .eAuth) ∧ t.cc.gate = false))

/-- The complete list of writers of `pl.link` (R212): if a step changes the link, it was a reset, a `CC_INIT` (even one that
fails), a `PL_INIT`, a `ZEROIZE` with `CC` or `PL`, a mismatching `PL_VERIFY` (each leaves it 0), or a `CC_POLYKEY`
completing `OK` (it becomes 1). The step's
transaction is the head of the model's own `pending` (assumption log 1). -/
def Obligations.LinkChangesOnlyByItsWriters : Prop :=
  ∀ s t : State, step s = .next t → t.pl.link ≠ s.pl.link →
    ((∃ rest, s.pending = .reset :: rest) ∧ t.pl.link = false) ∨
    ∃ w rest, s.pending = .write 0x004 4 w :: rest ∧
      ((decode w = .ok .ccInit ∧ t.pl.link = false) ∨
        (decode w = .ok .plInit ∧ t.pl.link = false) ∨
        (∃ arg, decode w = .ok (.zeroize arg) ∧ (arg.getLsbD 0 = true ∨ arg.getLsbD 1 = true) ∧ t.pl.link = false) ∨
        (∃ arg, decode w = .ok (.ccPolykey arg) ∧ t.code = .ok ∧ t.pl.link = true) ∨
        (decode w = .ok .plVerify ∧ t.code = .eAuth ∧ t.pl.link = false))

/-- What the closed gate guarantees (R211, R217): over any number of host transactions that hold no reset and no `CC_INIT`,
`CC_POLYKEY`, `PL_VERIFY` or `ZEROIZE` with `CC`, a gated ChaCha20 context does not change at all, so no keystream is
produced from it. The transactions are those of the model's own `pending` (assumption log 1). -/
def Obligations.GatedContextStaysPut : Prop :=
  ∀ (n : Nat) (s t : State), s.cc.valid = true → s.cc.gate = true →
    (∀ e ∈ s.pending.take n, touchesGatedContext e = false) →
    Host.Core.run Sys2Proof.core n s = .next t → t.cc = s.cc

/-! ## Poly1305 (42_poly1305.md) -/

/-- `PL_INIT` (R180): with a 32-byte key it loads `r` (clamped) and `pad` from `KEY`, clears `TAG`, the authentication
flags and `KEY`; with another length it leaves the context all zero and `KEY` cleared. -/
def Obligations.PlInitLoadsKey : Prop :=
  decode 0x00000020#32 = .ok .plInit ∧
  ∀ s : State,
    (s.klen.toNat = 32 →
      exec .plInit s = .next { s with
        code := .ok
        lastop := 0x20#8
        key := Vector.replicate 16 0
        tag := Vector.replicate 4 0
        auth := { ok := false, fail := false }
        pl := {
          valid := true, done := false, link := false, h := 0, lfill := 0, lbuf := Vector.replicate 16 0
          r := BitVec.ofNat 128 (leint (bytesOf 16 (keyB s))) &&& 0x0FFFFFFC0FFFFFFC0FFFFFFC0FFFFFFF#128
          pad := BitVec.ofNat 128 (leint (bytesOf 16 fun j => keyB s (16 + j))) } }) ∧
    (s.klen.toNat ≠ 32 →
      exec .plInit s = .next { s with
        code := .eKeylen, lastop := 0x20#8, sticky := s.sticky ||| 0x02#6, key := Vector.replicate 16 0,
        tag := Vector.replicate 4 0, auth := { ok := false, fail := false }, pl := PL.zero })

/-- `PL_UPDATE` (R181): the leftover bytes and the `LEN` bytes of `BUF` are one byte string; its full 16-byte blocks are
absorbed in order, each with the bit 2^128, and the rest waits in `lbuf`; `BUF` is not modified. Not keyed, or `LEN` >
128, in that priority: nothing but `RESULT` and `STICKY.USEERR` changes. `lfill` ≤ 15 is its range in R44. -/
def Obligations.PlUpdateAbsorbsBytes : Prop :=
  decode 0x00000021#32 = .ok .plUpdate ∧
  ∀ (s : State) (d : List Byte),
    d = s.pl.lbuf.toList.take s.pl.lfill ++ bytesOf s.len.toNat (bufB s) →
    (s.pl.valid = true → s.len.toNat ≤ 128 → s.pl.lfill ≤ 15 →
      exec .plUpdate s = .next { s with
        code := .ok
        lastop := 0x21#8
        pl := { s.pl with
          h := polyAcc s.pl.r.toNat s.pl.h d (d.length / 16)
          lfill := d.length % 16
          lbuf := Vector.ofFn fun i : Fin 16 =>
            if d.length < 16 then (if i.val < d.length then d.getD i.val 0 else s.pl.lbuf[i])
            else d.getD (16 * (d.length / 16) + i.val) 0 } }) ∧
    (s.pl.valid = false →
      exec .plUpdate s = .next { s with code := .eState, lastop := 0x21#8, sticky := s.sticky ||| 0x01#6 }) ∧
    (s.pl.valid = true → 128 < s.len.toNat →
      exec .plUpdate s = .next { s with code := .eLen, lastop := 0x21#8, sticky := s.sticky ||| 0x01#6 })

/-- `PL_FINISH` (R182): the partial block, if any, is absorbed with the byte 0x01 above it and no other high bit (R188);
`TAG` is the little-endian `(h + pad) mod 2^128` (R189); the context is erased, `pl.link` kept, `pl.done` set. Not keyed:
nothing but `RESULT` and `STICKY.USEERR` changes. `lfill` ≤ 15 is its range in R44. -/
def Obligations.PlFinishWritesTag : Prop :=
  decode 0x00000022#32 = .ok .plFinish ∧
  ∀ s : State,
    (s.pl.valid = true → s.pl.lfill ≤ 15 →
      ∃ t, exec .plFinish s = .next t ∧
        t = { s with
          code := .ok, lastop := 0x22#8, tag := t.tag, auth := { ok := false, fail := false },
          pl := { PL.zero with link := s.pl.link, done := true } } ∧
        bytesOf 16 (tagB t) = stint 16
          ((if s.pl.lfill = 0 then s.pl.h
            else ((s.pl.h + (leint (s.pl.lbuf.toList.take s.pl.lfill) + 2 ^ (8 * s.pl.lfill))) * s.pl.r.toNat) %
              (2 ^ 130 - 5)) + s.pl.pad.toNat)) ∧
    (s.pl.valid = false →
      exec .plFinish s = .next { s with code := .eState, lastop := 0x22#8, sticky := s.sticky ||| 0x01#6 })

/-- For every key and every message in any chunking of at most 128 bytes each, `PL_INIT`, `PL_UPDATE`s, `PL_FINISH` leave in
`TAG` the whole-message function of R193, with the block values of R185. -/
def Obligations.Poly1305OfAnyChunking : Prop :=
  ∀ (s : State) (cs : List (List Byte)), s.klen.toNat = 32 → (∀ c ∈ cs, c.length ≤ 128) →
    ∃ t u v, exec .plInit s = .next t ∧ execChunks .plUpdate cs t = .next u ∧ exec .plFinish u = .next v ∧
      v.pl.done = true ∧
      bytesOf 16 (tagB v) = stint 16
        (polySum (clamp (BitVec.ofNat 128 (leint (bytesOf 16 (keyB s))))).toNat cs.flatten % (2 ^ 130 - 5) +
          leint (bytesOf 16 fun j => keyB s (16 + j)))

/-- `PL_VERIFY` (R191): equal tags set `AUTH_OK` and open the gate of a linked context; different tags destroy the Poly1305
context and `TAG`, set `AUTH_FAIL`, destroy a linked ChaCha20 context, and complete `E_AUTH`. No finished tag, or a
declared length other than 16, in that priority: nothing but `RESULT` and `STICKY` changes. -/
def Obligations.PlVerifyDecides : Prop :=
  decode 0x00000023#32 = .ok .plVerify ∧
  ∀ s : State,
    (s.pl.done = true → s.xtlen.toNat = 16 → s.tag = s.xtag →
      exec .plVerify s = .next { s with
        code := .ok, lastop := 0x23#8, auth := { ok := true, fail := false },
        cc := { s.cc with gate := if s.pl.link = true then false else s.cc.gate } }) ∧
    (s.pl.done = true → s.xtlen.toNat = 16 → s.tag ≠ s.xtag →
      exec .plVerify s = .next { s with
        code := .eAuth, lastop := 0x23#8, sticky := s.sticky ||| 0x04#6, pl := PL.zero, tag := Vector.replicate 4 0,
        auth := { ok := false, fail := true }, cc := if s.pl.link = true then CC.zero else s.cc }) ∧
    (s.pl.done = false →
      exec .plVerify s = .next { s with code := .eState, lastop := 0x23#8, sticky := s.sticky ||| 0x01#6 }) ∧
    (s.pl.done = true → s.xtlen.toNat ≠ 16 →
      exec .plVerify s = .next { s with code := .eTaglen, lastop := 0x23#8, sticky := s.sticky ||| 0x02#6 })

/-- The limb datapath refines the block step (R148, R149, R150, R187): from limbs within the bounds that hold between
blocks, adder, multiplier and carry chain give limbs within the same bounds whose value is congruent to the integer
formula of R186; no sum before the carry chain reaches 2^58. -/
def Obligations.LimbBlockRefinesBlockStep : Prop :=
  ∀ (r a : Limbs) (n : Nat),
    r.l0 ≤ 0x3FFFFFF → r.l1 ≤ 0x3FFFF03 → r.l2 ≤ 0x3FFC0FF → r.l3 ≤ 0x3F03FFF → r.l4 ≤ 0x00FFFFF →
    a.l0 < 2 ^ 26 → a.l1 < 2 ^ 26 + 2 ^ 6 → a.l2 < 2 ^ 26 → a.l3 < 2 ^ 26 → a.l4 < 2 ^ 26 → n < 2 ^ 129 →
    (∀ d, d = limbMul (limbAdd a (limbsOf n)) r →
      d.l0 < 2 ^ 58 ∧ d.l1 < 2 ^ 58 ∧ d.l2 < 2 ^ 58 ∧ d.l3 < 2 ^ 58 ∧ d.l4 < 2 ^ 58) ∧
    (∀ b, b = limbBlock r a n →
      b.l0 < 2 ^ 26 ∧ b.l1 < 2 ^ 26 + 2 ^ 6 ∧ b.l2 < 2 ^ 26 ∧ b.l3 < 2 ^ 26 ∧ b.l4 < 2 ^ 26 ∧
      limbVal b % (2 ^ 130 - 5) = ((limbVal a + n) * limbVal r) % (2 ^ 130 - 5))

/-- The tag of the limb datapath, with the final reduction by mask select and the addition of `pad` in four words, is the
tag of the integer formula (R151, R189, R190). -/
def Obligations.LimbTagIsPolyTag : Prop :=
  ∀ (a : Limbs) (pad : BitVec 128),
    a.l0 < 2 ^ 26 → a.l1 < 2 ^ 26 + 2 ^ 6 → a.l2 < 2 ^ 26 → a.l3 < 2 ^ 26 → a.l4 < 2 ^ 26 →
    limbTag a pad = BitVec.ofNat 128 (limbVal a % (2 ^ 130 - 5) + pad.toNat)

/-- The limb form of the clamp gives the limbs of the clamped multiplier, which is below 2^124, and the limbs are within
the bounds of R147 (R147, R183). -/
def Obligations.ClampLimbsAreLimbsOfClamp : Prop :=
  ∀ k : List Byte, 16 ≤ k.length →
    clampLimbs k = limbsOf (clamp (BitVec.ofNat 128 (leint (k.take 16)))).toNat ∧
    (clamp (BitVec.ofNat 128 (leint (k.take 16)))).toNat < 2 ^ 124 ∧
    (clampLimbs k).l0 ≤ 0x3FFFFFF ∧ (clampLimbs k).l1 ≤ 0x3FFFF03 ∧ (clampLimbs k).l2 ≤ 0x3FFC0FF ∧
    (clampLimbs k).l3 ≤ 0x3F03FFF ∧ (clampLimbs k).l4 ≤ 0x00FFFFF

/-! ## BLAKE2b (45_blake2b.md) -/

/-- `B2_INIT` (R250): with an output length of 1 to 64 and a key length of at most 64 it builds the hasher, with the
zero-padded key block waiting in the buffer if there is a key, and clears `DIGEST` and `KEY`; another output length, else a
longer key, leaves the context all zero and `KEY` and `DIGEST` cleared. -/
def Obligations.B2InitBuildsHasher : Prop :=
  decode 0x00000030#32 = .ok .b2Init ∧
  ∀ s : State,
    (1 ≤ s.outlen.toNat → s.outlen.toNat ≤ 64 → s.klen.toNat ≤ 64 →
      exec .b2Init s = .next { s with
        code := .ok
        lastop := 0x30#8
        key := Vector.replicate 16 0
        digest := Vector.replicate 16 0
        b2 := {
          valid := true, done := false, t := 0, outlen := s.outlen.toNat
          h := #v[0x6A09E667F3BCC908#64 ^^^ 0x01010000#64 ^^^ (s.klen.zeroExtend 64 <<< 8) ^^^ s.outlen.zeroExtend 64,
            0xBB67AE8584CAA73B#64, 0x3C6EF372FE94F82B#64, 0xA54FF53A5F1D36F1#64, 0x510E527FADE682D1#64,
            0x9B05688C2B3E6C1F#64, 0x1F83D9ABFB41BD6B#64, 0x5BE0CD19137E2179#64]
          buf := Vector.ofFn fun j : Fin 128 => if j.val < s.klen.toNat then keyB s j.val else 0#8
          fill := if s.klen.toNat = 0 then 0 else 128 } }) ∧
    (s.outlen.toNat = 0 ∨ 64 < s.outlen.toNat →
      exec .b2Init s = .next { s with
        code := .eOutlen, lastop := 0x30#8, sticky := s.sticky ||| 0x02#6, key := Vector.replicate 16 0,
        digest := Vector.replicate 16 0, b2 := B2.zero }) ∧
    (1 ≤ s.outlen.toNat → s.outlen.toNat ≤ 64 → 64 < s.klen.toNat →
      exec .b2Init s = .next { s with
        code := .eKeylen, lastop := 0x30#8, sticky := s.sticky ||| 0x02#6, key := Vector.replicate 16 0,
        digest := Vector.replicate 16 0, b2 := B2.zero })

/-- `B2_UPDATE` (R251): while the bytes fit the buffer they are appended; when one more arrives than fits, the full buffer is
compressed once, not as the final block, with the counter of its bytes, and the rest starts a zeroed buffer; `BUF` is not
modified. Not initialised, or `LEN` > 128, in that priority: nothing but `RESULT` and `STICKY.USEERR` changes. `fill` ≤ 128
is its range in R45. -/
def Obligations.B2UpdateAbsorbsBytes : Prop :=
  decode 0x00000031#32 = .ok .b2Update ∧
  ∀ s : State,
    (s.b2.valid = true → s.b2.fill + s.len.toNat ≤ 128 →
      exec .b2Update s = .next { s with
        code := .ok
        lastop := 0x31#8
        b2 := { s.b2 with
          fill := s.b2.fill + s.len.toNat
          buf := Vector.ofFn fun j : Fin 128 =>
            if s.b2.fill ≤ j.val ∧ j.val < s.b2.fill + s.len.toNat then bufB s (j.val - s.b2.fill) else s.b2.buf[j] } }) ∧
    (s.b2.valid = true → s.len.toNat ≤ 128 → s.b2.fill ≤ 128 → 128 < s.b2.fill + s.len.toNat →
      exec .b2Update s = .next { s with
        code := .ok
        lastop := 0x31#8
        b2 := { s.b2 with
          t := s.b2.t + 128#128
          h := b2Compress s.b2.h
            (Vector.ofFn fun j : Fin 128 => if s.b2.fill ≤ j.val then bufB s (j.val - s.b2.fill) else s.b2.buf[j])
            (s.b2.t + 128#128) false
          fill := s.b2.fill + s.len.toNat - 128
          buf := Vector.ofFn fun j : Fin 128 =>
            if j.val < s.b2.fill + s.len.toNat - 128 then bufB s (128 - s.b2.fill + j.val) else 0#8 } }) ∧
    (s.b2.valid = false →
      exec .b2Update s = .next { s with code := .eState, lastop := 0x31#8, sticky := s.sticky ||| 0x01#6 }) ∧
    (s.b2.valid = true → 128 < s.len.toNat →
      exec .b2Update s = .next { s with code := .eLen, lastop := 0x31#8, sticky := s.sticky ||| 0x01#6 })

/-- `B2_FINAL` (R252): one final compression of the buffered bytes, zero-padded, with the counter of the real bytes only;
`DIGEST` is its first `outlen` bytes, little-endian per word, then zeros (R259); the context is erased and `b2.done` set.
Not initialised: nothing but `RESULT` and `STICKY.USEERR` changes. `fill` ≤ 128 and `outlen` ≤ 64 are their ranges in
R45. -/
def Obligations.B2FinalWritesDigest : Prop :=
  decode 0x00000032#32 = .ok .b2Final ∧
  ∀ (s : State) (h : Vector DWord 8),
    h = b2Compress s.b2.h (Vector.ofFn fun j : Fin 128 => if j.val < s.b2.fill then s.b2.buf[j] else 0#8)
      (BitVec.ofNat 128 (s.b2.t.toNat + s.b2.fill)) true →
    (s.b2.valid = true → s.b2.fill ≤ 128 → s.b2.outlen ≤ 64 →
      ∃ t, exec .b2Final s = .next t ∧
        t = { s with code := .ok, lastop := 0x32#8, digest := t.digest, b2 := { B2.zero with done := true } } ∧
        (∀ j : Fin 64, j.val < s.b2.outlen → digestB t j.val = h[j.val / 8].extractLsb' (8 * (j.val % 8)) 8) ∧
        (∀ j : Fin 64, s.b2.outlen ≤ j.val → digestB t j.val = 0#8)) ∧
    (s.b2.valid = false →
      exec .b2Final s = .next { s with code := .eState, lastop := 0x32#8, sticky := s.sticky ||| 0x01#6 })

/-- For every output length of 1 to 64, every key of 0 to 64 bytes and every message in any chunking of at most 128 bytes
each, `B2_INIT`, `B2_UPDATE`s, `B2_FINAL` leave in `DIGEST` the whole-message function of R262, then zeros. -/
def Obligations.Blake2bOfAnyChunking : Prop :=
  ∀ (s : State) (cs : List (List Byte)), 1 ≤ s.outlen.toNat → s.outlen.toNat ≤ 64 → s.klen.toNat ≤ 64 →
    (∀ c ∈ cs, c.length ≤ 128) →
    ∃ t u v, exec .b2Init s = .next t ∧ execChunks .b2Update cs t = .next u ∧ exec .b2Final u = .next v ∧
      v.b2.done = true ∧
      bytesOf s.outlen.toNat (digestB v) = blake2b cs.flatten s.outlen.toNat (bytesOf s.klen.toNat (keyB s)) ∧
      ∀ j, s.outlen.toNat ≤ j → j < 64 → digestB v j = 0#8

/-- The half-word forms of the 64-bit operations compute the same values as the 64-bit forms (R137). -/
def Obligations.HalvesComputeWords : Prop :=
  (∀ x : DWord, halvesVal (halvesOf x) = x) ∧
  (∀ a b : Halves, halvesVal (xor64Halves a b) = halvesVal a ^^^ halvesVal b) ∧
  (∀ a b : Halves, halvesVal (add64Halves a b) = add64 (halvesVal a) (halvesVal b)) ∧
  (∀ x : Halves, halvesVal (rotr64Halves32 x) = rotr64 (halvesVal x) 32) ∧
  (∀ (x : Halves) (n : Nat), 0 < n → n < 32 → halvesVal (rotr64HalvesLow x n) = rotr64 (halvesVal x) n) ∧
  (∀ x : Halves, halvesVal (rotr64Halves63 x) = rotr64 (halvesVal x) 63)

/-! ## XSalsa20 (44_xsalsa20.md) -/

/-- `XS_INIT` (R230): with a 32-byte key and a 24-byte nonce the context is the Salsa20 state of the HSalsa20 subkey (R233),
the last eight nonce bytes and counter 0, in the layout of R232, and `KEY` is cleared; another key length, else another
nonce length, leaves the context all zero and `KEY` cleared. -/
def Obligations.XsInitDerivesSubkey : Prop :=
  decode 0x00000040#32 = .ok .xsInit ∧
  ∀ (s : State) (k : Vector Word 8),
    k = hsalsa20 #v[s.key[0], s.key[1], s.key[2], s.key[3], s.key[4], s.key[5], s.key[6], s.key[7]]
      s.nonce[0] s.nonce[1] s.nonce[2] s.nonce[3] →
    (s.klen.toNat = 32 → s.nlen.toNat = 24 →
      exec .xsInit s = .next { s with
        code := .ok, lastop := 0x40#8, key := Vector.replicate 16 0,
        xs := {
          valid := true, avail := 0, blk := Vector.replicate 64 0,
          st := #v[0x61707865#32, k[0], k[1], k[2], k[3], 0x3320646E#32, s.nonce[4], s.nonce[5],
            0#32, 0#32, 0x79622D32#32, k[4], k[5], k[6], k[7], 0x6B206574#32] } }) ∧
    (s.klen.toNat ≠ 32 →
      exec .xsInit s = .next { s with
        code := .eKeylen, lastop := 0x40#8, sticky := s.sticky ||| 0x02#6, key := Vector.replicate 16 0,
        xs := XS.zero }) ∧
    (s.klen.toNat = 32 → s.nlen.toNat ≠ 24 →
      exec .xsInit s = .next { s with
        code := .eNoncelen, lastop := 0x40#8, sticky := s.sticky ||| 0x02#6, key := Vector.replicate 16 0,
        xs := XS.zero })

/-- `XS_XOR` (R231): as `CC_XOR`, with the Salsa20 keystream, a 64-bit counter whose wrap sets `STICKY.XS_WRAP` (R236), and
no gate. `avail` ≤ 64 is its range in R46. -/
def Obligations.XsXorProducesKeystream : Prop :=
  decode 0x00000041#32 = .ok .xsXor ∧
  ∀ s : State,
    (s.xs.valid = true → s.len.toNat ≤ 128 → s.xs.avail ≤ 64 →
      exec .xsXor s = .next { s with
        code := .ok
        lastop := 0x41#8
        sticky := if 2 ^ 64 ≤ (xsCounter s.xs).toNat + blocksNeeded s.xs.avail s.len.toNat then s.sticky ||| 0x20#6
          else s.sticky
        buf := Vector.ofFn fun j : Fin 128 =>
          if j.val < s.len.toNat then s.buf[j] ^^^ xsKeystream s.xs j.val else s.buf[j]
        xs := { s.xs with
          st := xsAdvance s.xs.st (blocksNeeded s.xs.avail s.len.toNat)
          blk := if blocksNeeded s.xs.avail s.len.toNat = 0 then s.xs.blk
            else saBlock (xsAdvance s.xs.st (blocksNeeded s.xs.avail s.len.toNat - 1))
          avail := availAfter s.xs.avail s.len.toNat } }) ∧
    (s.xs.valid = false →
      exec .xsXor s = .next { s with code := .eState, lastop := 0x41#8, sticky := s.sticky ||| 0x01#6 }) ∧
    (s.xs.valid = true → 128 < s.len.toNat →
      exec .xsXor s = .next { s with code := .eLen, lastop := 0x41#8, sticky := s.sticky ||| 0x01#6 })

/-- However a byte string is cut into `XS_XOR` chunks of at most 128 bytes, the output bytes of the last chunk `c` are the
keystream's at its place in the whole string, and cursor, counter, block and wrap flag depend only on the number of bytes
(R236, R237, R343). -/
def Obligations.XsStreamOfAnyChunking : Prop :=
  ∀ (s : State) (cs : List (List Byte)) (c : List Byte), s.xs.valid = true → s.xs.avail ≤ 64 → c.length ≤ 128 →
    (∀ d ∈ cs, d.length ≤ 128) →
    ∃ t, execChunks .xsXor (cs ++ [c]) s = .next t ∧
      (∀ j, j < c.length → bufB t j = c.getD j 0 ^^^ xsKeystream s.xs (cs.flatten.length + j)) ∧
      t.xs = { s.xs with
        st := xsAdvance s.xs.st (blocksNeeded s.xs.avail (cs.flatten.length + c.length))
        blk := if blocksNeeded s.xs.avail (cs.flatten.length + c.length) = 0 then s.xs.blk
          else saBlock (xsAdvance s.xs.st (blocksNeeded s.xs.avail (cs.flatten.length + c.length) - 1))
        avail := availAfter s.xs.avail (cs.flatten.length + c.length) } ∧
      t.sticky = if 2 ^ 64 ≤ (xsCounter s.xs).toNat + blocksNeeded s.xs.avail (cs.flatten.length + c.length)
        then s.sticky ||| 0x20#6 else s.sticky

/-- Decryption is encryption: an `XS_XOR` that completes `OK`, repeated on its own output with the context put back to
where it was, restores every byte of `BUF` (R237). -/
def Obligations.XsXorInvolution : Prop :=
  ∀ s t : State, s.xs.avail ≤ 64 → exec .xsXor s = .next t → t.code = .ok →
    ∃ u, exec .xsXor { t with xs := s.xs } = .next u ∧ u.code = .ok ∧ u.buf = s.buf ∧ u.xs = t.xs

/-! ## Reset and the whole machine -/

/-- After reset every piece of state the spec gives the device is zero, and `ID` reads its constant (R51). The model's own
`pending` and `response` (assumption log 3) are not part of this statement. -/
def Obligations.ResetStateIsZero : Prop :=
  State.reset.code = .ok ∧ State.reset.lastop = 0#8 ∧ State.reset.sticky = 0#6 ∧ State.reset.len = 0#8 ∧
  State.reset.klen = 0#8 ∧ State.reset.nlen = 0#8 ∧ State.reset.outlen = 0#8 ∧ State.reset.xtlen = 0#8 ∧
  State.reset.ctr = 0#32 ∧ State.reset.key = Vector.replicate 16 0#32 ∧ State.reset.nonce = Vector.replicate 6 0#32 ∧
  State.reset.xtag = Vector.replicate 4 0#32 ∧ State.reset.tag = Vector.replicate 4 0#32 ∧
  State.reset.digest = Vector.replicate 16 0#32 ∧ State.reset.buf = Vector.replicate 128 0#8 ∧
  State.reset.cc = {
    valid := false, gate := false, st := Vector.replicate 16 0#32, blk := Vector.replicate 64 0#8, avail := 0 } ∧
  State.reset.pl = {
    valid := false, done := false, link := false, r := 0#128, pad := 0#128, h := 0, lbuf := Vector.replicate 16 0#8,
    lfill := 0 } ∧
  State.reset.b2 = {
    valid := false, done := false, h := Vector.replicate 8 0#64, t := 0#128, buf := Vector.replicate 128 0#8, fill := 0,
    outlen := 0 } ∧
  State.reset.xs = { valid := false, st := Vector.replicate 16 0#32, blk := Vector.replicate 64 0#8, avail := 0 } ∧
  State.reset.auth = { ok := false, fail := false } ∧
  (∀ r, regRead State.reset r = if r = .id then 0x4C444331#32 else 0#32)

/-- The reset event takes any state to the reset state (R330, R331). Two parts of the next state are the model's choice, no
rule of the spec: `response` becomes `none` again (assumption log 3), and the host's transactions still to come stay in
`pending` (assumption log 4). -/
def Obligations.ResetEventResets : Prop :=
  ∀ (s : State) (rest : List HostEvent), s.pending = .reset :: rest →
    step s = .next { State.reset with pending := rest }

/-- The reset state meets the invariant. -/
def Obligations.InvariantAtReset : Prop := State.reset.Inv

/-- Every step keeps the invariant of R302 (with the invariants of R38, R39, R43 to R47, R255): no input violates it. -/
def Obligations.StepKeepsInvariant : Prop :=
  ∀ s t : State, s.Inv → step s = .next t → t.Inv

/-- "No input makes the device hang": from every state, every number of steps answers a next state (R10, R299). -/
def Obligations.NoRunEverStops : Prop :=
  ∀ (n : Nat) (s : State), ∃ t, Host.Core.run Sys2Proof.core n s = .next t

/-- No read reveals a secret: two states that differ only in `KEY`, the key words and block buffers of the stream ciphers,
the Poly1305 secrets and the BLAKE2b state give the same answer to every read (R304). The answer is the model's own
`response` (assumption log 1). -/
def Obligations.ReadsRevealNoSecrets : Prop :=
  ∀ (s : State) (key : Vector Word 16) (ccSt xsSt : Vector Word 16) (ccBlk xsBlk : Vector Byte 64) (r pad : BitVec 128)
    (h : Nat) (lbuf : Vector Byte 16) (bh : Vector DWord 8) (bt : BitVec 128) (bbuf : Vector Byte 128)
    (rest : List HostEvent) (off size : Nat) (t u : State),
    ccSt[12] = s.cc.st[12] → xsSt[8] = s.xs.st[8] → xsSt[9] = s.xs.st[9] → s.pending = .read off size :: rest →
    step s = .next t →
    step { s with
      key := key, cc := { s.cc with st := ccSt, blk := ccBlk }, xs := { s.xs with st := xsSt, blk := xsBlk },
      pl := { s.pl with r := r, pad := pad, h := h, lbuf := lbuf },
      b2 := { s.b2 with h := bh, t := bt, buf := bbuf } } = .next u →
    t.response = u.response

/-! ## Integer laws (40_primitives.md) -/

/-- The two additions wrap modulo 2^32 and 2^64, without carry or flag (R130, R135). -/
def Obligations.WordAdditionWraps : Prop :=
  (∀ a b : Word, (add32 a b).toNat = (a.toNat + b.toNat) % 2 ^ 32) ∧
  (∀ a b : DWord, (add64 a b).toNat = (a.toNat + b.toNat) % 2 ^ 64) ∧
  add32 0xFFFFFFFF#32 1#32 = 0#32 ∧ add32 0x80000000#32 0x80000000#32 = 0#32 ∧ add64 0xFFFFFFFFFFFFFFFF#64 1#64 = 0#64

/-- The rotations are the formulas of R131 and R136 and move bit `i` to bit `(i + n) mod 32`, to bit `(i − n) mod 64`. -/
def Obligations.RotationsMoveBits : Prop :=
  (∀ (x : Word) (n : Nat), 1 ≤ n → n ≤ 31 →
    (rotl32 x n).toNat = ((x.toNat <<< n) ||| (x.toNat >>> (32 - n))) % 2 ^ 32 ∧
    ∀ i, i < 32 → (rotl32 x n).getLsbD ((i + n) % 32) = x.getLsbD i) ∧
  (∀ (x : DWord) (n : Nat), 1 ≤ n → n ≤ 63 →
    (rotr64 x n).toNat = ((x.toNat >>> n) ||| (x.toNat <<< (64 - n))) % 2 ^ 64 ∧
    ∀ i, i < 64 → (rotr64 x n).getLsbD ((i + 64 - n) % 64) = x.getLsbD i)

/-- Little-endian packing: `le32`, `le64`, `leint` are the sums of their rules and `st32`, `st64`, `stint` their inverses
(R132, R133, R134). -/
def Obligations.LittleEndianPacking : Prop :=
  (∀ a b c d : Byte,
    (le32 a b c d).toNat = a.toNat + 2 ^ 8 * b.toNat + 2 ^ 16 * c.toNat + 2 ^ 24 * d.toNat ∧
    st32 (le32 a b c d) = [a, b, c, d]) ∧
  (∀ w : Word, le32 (wordByte w 0) (wordByte w 1) (wordByte w 2) (wordByte w 3) = w) ∧
  (∀ a b c d e f g h : Byte,
    (le64 a b c d e f g h).toNat = (le32 a b c d).toNat + 2 ^ 32 * (le32 e f g h).toNat ∧
    st64 (le64 a b c d e f g h) = [a, b, c, d, e, f, g, h]) ∧
  (∀ bs : List Byte, leint bs = ((List.range bs.length).map fun i => 2 ^ (8 * i) * (bs.getD i 0).toNat).sum ∧
    stint bs.length (leint bs) = bs) ∧
  (∀ n v : Nat, (stint n v).length = n ∧ leint (stint n v) = v % 2 ^ (8 * n))

end
end

