-- ==== Sys2Proof/Laws/State.lean ====
section
/-! SUPPORT. One lemma per field and per update of State, each true by `rfl`: later proofs rewrite with these and do not
unfold a record update. -/

namespace Sys2Proof.Machine

/-! ### completion (60_exceptions.md R290) -/

@[simp] theorem complete_code (opc : Byte) (c : Code) (s : State) : (complete opc c s).code = c := rfl
@[simp] theorem complete_lastop (opc : Byte) (c : Code) (s : State) : (complete opc c s).lastop = opc := rfl
@[simp] theorem complete_sticky (opc : Byte) (c : Code) (s : State) : (complete opc c s).sticky = s.sticky ||| codeSticky c := rfl
@[simp] theorem complete_len (opc : Byte) (c : Code) (s : State) : (complete opc c s).len = s.len := rfl
@[simp] theorem complete_klen (opc : Byte) (c : Code) (s : State) : (complete opc c s).klen = s.klen := rfl
@[simp] theorem complete_nlen (opc : Byte) (c : Code) (s : State) : (complete opc c s).nlen = s.nlen := rfl
@[simp] theorem complete_outlen (opc : Byte) (c : Code) (s : State) : (complete opc c s).outlen = s.outlen := rfl
@[simp] theorem complete_xtlen (opc : Byte) (c : Code) (s : State) : (complete opc c s).xtlen = s.xtlen := rfl
@[simp] theorem complete_ctr (opc : Byte) (c : Code) (s : State) : (complete opc c s).ctr = s.ctr := rfl
@[simp] theorem complete_key (opc : Byte) (c : Code) (s : State) : (complete opc c s).key = s.key := rfl
@[simp] theorem complete_nonce (opc : Byte) (c : Code) (s : State) : (complete opc c s).nonce = s.nonce := rfl
@[simp] theorem complete_xtag (opc : Byte) (c : Code) (s : State) : (complete opc c s).xtag = s.xtag := rfl
@[simp] theorem complete_tag (opc : Byte) (c : Code) (s : State) : (complete opc c s).tag = s.tag := rfl
@[simp] theorem complete_digest (opc : Byte) (c : Code) (s : State) : (complete opc c s).digest = s.digest := rfl
@[simp] theorem complete_buf (opc : Byte) (c : Code) (s : State) : (complete opc c s).buf = s.buf := rfl
@[simp] theorem complete_cc (opc : Byte) (c : Code) (s : State) : (complete opc c s).cc = s.cc := rfl
@[simp] theorem complete_pl (opc : Byte) (c : Code) (s : State) : (complete opc c s).pl = s.pl := rfl
@[simp] theorem complete_b2 (opc : Byte) (c : Code) (s : State) : (complete opc c s).b2 = s.b2 := rfl
@[simp] theorem complete_xs (opc : Byte) (c : Code) (s : State) : (complete opc c s).xs = s.xs := rfl
@[simp] theorem complete_auth (opc : Byte) (c : Code) (s : State) : (complete opc c s).auth = s.auth := rfl
@[simp] theorem complete_pending (opc : Byte) (c : Code) (s : State) : (complete opc c s).pending = s.pending := rfl
@[simp] theorem complete_response (opc : Byte) (c : Code) (s : State) : (complete opc c s).response = s.response := rfl

/-! ### `ZeroizeCC` (46_system.md R282) -/

@[simp] theorem zeroizeCC_code (s : State) : (zeroizeCC s).code = s.code := rfl
@[simp] theorem zeroizeCC_lastop (s : State) : (zeroizeCC s).lastop = s.lastop := rfl
@[simp] theorem zeroizeCC_sticky (s : State) : (zeroizeCC s).sticky = s.sticky := rfl
@[simp] theorem zeroizeCC_len (s : State) : (zeroizeCC s).len = s.len := rfl
@[simp] theorem zeroizeCC_klen (s : State) : (zeroizeCC s).klen = s.klen := rfl
@[simp] theorem zeroizeCC_nlen (s : State) : (zeroizeCC s).nlen = s.nlen := rfl
@[simp] theorem zeroizeCC_outlen (s : State) : (zeroizeCC s).outlen = s.outlen := rfl
@[simp] theorem zeroizeCC_xtlen (s : State) : (zeroizeCC s).xtlen = s.xtlen := rfl
@[simp] theorem zeroizeCC_ctr (s : State) : (zeroizeCC s).ctr = s.ctr := rfl
@[simp] theorem zeroizeCC_key (s : State) : (zeroizeCC s).key = s.key := rfl
@[simp] theorem zeroizeCC_nonce (s : State) : (zeroizeCC s).nonce = s.nonce := rfl
@[simp] theorem zeroizeCC_xtag (s : State) : (zeroizeCC s).xtag = s.xtag := rfl
@[simp] theorem zeroizeCC_tag (s : State) : (zeroizeCC s).tag = s.tag := rfl
@[simp] theorem zeroizeCC_digest (s : State) : (zeroizeCC s).digest = s.digest := rfl
@[simp] theorem zeroizeCC_buf (s : State) : (zeroizeCC s).buf = s.buf := rfl
@[simp] theorem zeroizeCC_cc (s : State) : (zeroizeCC s).cc = CC.zero := rfl
@[simp] theorem zeroizeCC_pl (s : State) : (zeroizeCC s).pl = { s.pl with link := false } := rfl
@[simp] theorem zeroizeCC_b2 (s : State) : (zeroizeCC s).b2 = s.b2 := rfl
@[simp] theorem zeroizeCC_xs (s : State) : (zeroizeCC s).xs = s.xs := rfl
@[simp] theorem zeroizeCC_auth (s : State) : (zeroizeCC s).auth = s.auth := rfl
@[simp] theorem zeroizeCC_pending (s : State) : (zeroizeCC s).pending = s.pending := rfl
@[simp] theorem zeroizeCC_response (s : State) : (zeroizeCC s).response = s.response := rfl

/-! ### `ZeroizePL` (R283) -/

@[simp] theorem zeroizePL_code (s : State) : (zeroizePL s).code = s.code := rfl
@[simp] theorem zeroizePL_lastop (s : State) : (zeroizePL s).lastop = s.lastop := rfl
@[simp] theorem zeroizePL_sticky (s : State) : (zeroizePL s).sticky = s.sticky := rfl
@[simp] theorem zeroizePL_len (s : State) : (zeroizePL s).len = s.len := rfl
@[simp] theorem zeroizePL_klen (s : State) : (zeroizePL s).klen = s.klen := rfl
@[simp] theorem zeroizePL_nlen (s : State) : (zeroizePL s).nlen = s.nlen := rfl
@[simp] theorem zeroizePL_outlen (s : State) : (zeroizePL s).outlen = s.outlen := rfl
@[simp] theorem zeroizePL_xtlen (s : State) : (zeroizePL s).xtlen = s.xtlen := rfl
@[simp] theorem zeroizePL_ctr (s : State) : (zeroizePL s).ctr = s.ctr := rfl
@[simp] theorem zeroizePL_key (s : State) : (zeroizePL s).key = s.key := rfl
@[simp] theorem zeroizePL_nonce (s : State) : (zeroizePL s).nonce = s.nonce := rfl
@[simp] theorem zeroizePL_xtag (s : State) : (zeroizePL s).xtag = s.xtag := rfl
@[simp] theorem zeroizePL_tag (s : State) : (zeroizePL s).tag = Vector.replicate 4 0 := rfl
@[simp] theorem zeroizePL_digest (s : State) : (zeroizePL s).digest = s.digest := rfl
@[simp] theorem zeroizePL_buf (s : State) : (zeroizePL s).buf = s.buf := rfl
@[simp] theorem zeroizePL_cc (s : State) : (zeroizePL s).cc = s.cc := rfl
@[simp] theorem zeroizePL_pl (s : State) : (zeroizePL s).pl = PL.zero := rfl
@[simp] theorem zeroizePL_b2 (s : State) : (zeroizePL s).b2 = s.b2 := rfl
@[simp] theorem zeroizePL_xs (s : State) : (zeroizePL s).xs = s.xs := rfl
@[simp] theorem zeroizePL_auth (s : State) : (zeroizePL s).auth = Auth.zero := rfl
@[simp] theorem zeroizePL_pending (s : State) : (zeroizePL s).pending = s.pending := rfl
@[simp] theorem zeroizePL_response (s : State) : (zeroizePL s).response = s.response := rfl

/-! ### `ZeroizeB2` (R284) -/

@[simp] theorem zeroizeB2_code (s : State) : (zeroizeB2 s).code = s.code := rfl
@[simp] theorem zeroizeB2_lastop (s : State) : (zeroizeB2 s).lastop = s.lastop := rfl
@[simp] theorem zeroizeB2_sticky (s : State) : (zeroizeB2 s).sticky = s.sticky := rfl
@[simp] theorem zeroizeB2_len (s : State) : (zeroizeB2 s).len = s.len := rfl
@[simp] theorem zeroizeB2_klen (s : State) : (zeroizeB2 s).klen = s.klen := rfl
@[simp] theorem zeroizeB2_nlen (s : State) : (zeroizeB2 s).nlen = s.nlen := rfl
@[simp] theorem zeroizeB2_outlen (s : State) : (zeroizeB2 s).outlen = s.outlen := rfl
@[simp] theorem zeroizeB2_xtlen (s : State) : (zeroizeB2 s).xtlen = s.xtlen := rfl
@[simp] theorem zeroizeB2_ctr (s : State) : (zeroizeB2 s).ctr = s.ctr := rfl
@[simp] theorem zeroizeB2_key (s : State) : (zeroizeB2 s).key = s.key := rfl
@[simp] theorem zeroizeB2_nonce (s : State) : (zeroizeB2 s).nonce = s.nonce := rfl
@[simp] theorem zeroizeB2_xtag (s : State) : (zeroizeB2 s).xtag = s.xtag := rfl
@[simp] theorem zeroizeB2_tag (s : State) : (zeroizeB2 s).tag = s.tag := rfl
@[simp] theorem zeroizeB2_digest (s : State) : (zeroizeB2 s).digest = Vector.replicate 16 0 := rfl
@[simp] theorem zeroizeB2_buf (s : State) : (zeroizeB2 s).buf = s.buf := rfl
@[simp] theorem zeroizeB2_cc (s : State) : (zeroizeB2 s).cc = s.cc := rfl
@[simp] theorem zeroizeB2_pl (s : State) : (zeroizeB2 s).pl = s.pl := rfl
@[simp] theorem zeroizeB2_b2 (s : State) : (zeroizeB2 s).b2 = B2.zero := rfl
@[simp] theorem zeroizeB2_xs (s : State) : (zeroizeB2 s).xs = s.xs := rfl
@[simp] theorem zeroizeB2_auth (s : State) : (zeroizeB2 s).auth = s.auth := rfl
@[simp] theorem zeroizeB2_pending (s : State) : (zeroizeB2 s).pending = s.pending := rfl
@[simp] theorem zeroizeB2_response (s : State) : (zeroizeB2 s).response = s.response := rfl

/-! ### `ZeroizeXS` (R285) -/

@[simp] theorem zeroizeXS_code (s : State) : (zeroizeXS s).code = s.code := rfl
@[simp] theorem zeroizeXS_lastop (s : State) : (zeroizeXS s).lastop = s.lastop := rfl
@[simp] theorem zeroizeXS_sticky (s : State) : (zeroizeXS s).sticky = s.sticky := rfl
@[simp] theorem zeroizeXS_len (s : State) : (zeroizeXS s).len = s.len := rfl
@[simp] theorem zeroizeXS_klen (s : State) : (zeroizeXS s).klen = s.klen := rfl
@[simp] theorem zeroizeXS_nlen (s : State) : (zeroizeXS s).nlen = s.nlen := rfl
@[simp] theorem zeroizeXS_outlen (s : State) : (zeroizeXS s).outlen = s.outlen := rfl
@[simp] theorem zeroizeXS_xtlen (s : State) : (zeroizeXS s).xtlen = s.xtlen := rfl
@[simp] theorem zeroizeXS_ctr (s : State) : (zeroizeXS s).ctr = s.ctr := rfl
@[simp] theorem zeroizeXS_key (s : State) : (zeroizeXS s).key = s.key := rfl
@[simp] theorem zeroizeXS_nonce (s : State) : (zeroizeXS s).nonce = s.nonce := rfl
@[simp] theorem zeroizeXS_xtag (s : State) : (zeroizeXS s).xtag = s.xtag := rfl
@[simp] theorem zeroizeXS_tag (s : State) : (zeroizeXS s).tag = s.tag := rfl
@[simp] theorem zeroizeXS_digest (s : State) : (zeroizeXS s).digest = s.digest := rfl
@[simp] theorem zeroizeXS_buf (s : State) : (zeroizeXS s).buf = s.buf := rfl
@[simp] theorem zeroizeXS_cc (s : State) : (zeroizeXS s).cc = s.cc := rfl
@[simp] theorem zeroizeXS_pl (s : State) : (zeroizeXS s).pl = s.pl := rfl
@[simp] theorem zeroizeXS_b2 (s : State) : (zeroizeXS s).b2 = s.b2 := rfl
@[simp] theorem zeroizeXS_xs (s : State) : (zeroizeXS s).xs = XS.zero := rfl
@[simp] theorem zeroizeXS_auth (s : State) : (zeroizeXS s).auth = s.auth := rfl
@[simp] theorem zeroizeXS_pending (s : State) : (zeroizeXS s).pending = s.pending := rfl
@[simp] theorem zeroizeXS_response (s : State) : (zeroizeXS s).response = s.response := rfl

/-! ### `ZeroizeStage` (R286) -/

@[simp] theorem zeroizeStage_code (s : State) : (zeroizeStage s).code = s.code := rfl
@[simp] theorem zeroizeStage_lastop (s : State) : (zeroizeStage s).lastop = s.lastop := rfl
@[simp] theorem zeroizeStage_sticky (s : State) : (zeroizeStage s).sticky = s.sticky := rfl
@[simp] theorem zeroizeStage_len (s : State) : (zeroizeStage s).len = 0 := rfl
@[simp] theorem zeroizeStage_klen (s : State) : (zeroizeStage s).klen = 0 := rfl
@[simp] theorem zeroizeStage_nlen (s : State) : (zeroizeStage s).nlen = 0 := rfl
@[simp] theorem zeroizeStage_outlen (s : State) : (zeroizeStage s).outlen = 0 := rfl
@[simp] theorem zeroizeStage_xtlen (s : State) : (zeroizeStage s).xtlen = 0 := rfl
@[simp] theorem zeroizeStage_ctr (s : State) : (zeroizeStage s).ctr = 0 := rfl
@[simp] theorem zeroizeStage_key (s : State) : (zeroizeStage s).key = Vector.replicate 16 0 := rfl
@[simp] theorem zeroizeStage_nonce (s : State) : (zeroizeStage s).nonce = Vector.replicate 6 0 := rfl
@[simp] theorem zeroizeStage_xtag (s : State) : (zeroizeStage s).xtag = Vector.replicate 4 0 := rfl
@[simp] theorem zeroizeStage_tag (s : State) : (zeroizeStage s).tag = s.tag := rfl
@[simp] theorem zeroizeStage_digest (s : State) : (zeroizeStage s).digest = s.digest := rfl
@[simp] theorem zeroizeStage_buf (s : State) : (zeroizeStage s).buf = Vector.replicate 128 0 := rfl
@[simp] theorem zeroizeStage_cc (s : State) : (zeroizeStage s).cc = s.cc := rfl
@[simp] theorem zeroizeStage_pl (s : State) : (zeroizeStage s).pl = s.pl := rfl
@[simp] theorem zeroizeStage_b2 (s : State) : (zeroizeStage s).b2 = s.b2 := rfl
@[simp] theorem zeroizeStage_xs (s : State) : (zeroizeStage s).xs = s.xs := rfl
@[simp] theorem zeroizeStage_auth (s : State) : (zeroizeStage s).auth = s.auth := rfl
@[simp] theorem zeroizeStage_pending (s : State) : (zeroizeStage s).pending = s.pending := rfl
@[simp] theorem zeroizeStage_response (s : State) : (zeroizeStage s).response = s.response := rfl

/-! ### the clearing of `KEY` (10_state.md R35) -/

@[simp] theorem clearKey_code (s : State) : (clearKey s).code = s.code := rfl
@[simp] theorem clearKey_lastop (s : State) : (clearKey s).lastop = s.lastop := rfl
@[simp] theorem clearKey_sticky (s : State) : (clearKey s).sticky = s.sticky := rfl
@[simp] theorem clearKey_len (s : State) : (clearKey s).len = s.len := rfl
@[simp] theorem clearKey_klen (s : State) : (clearKey s).klen = s.klen := rfl
@[simp] theorem clearKey_nlen (s : State) : (clearKey s).nlen = s.nlen := rfl
@[simp] theorem clearKey_outlen (s : State) : (clearKey s).outlen = s.outlen := rfl
@[simp] theorem clearKey_xtlen (s : State) : (clearKey s).xtlen = s.xtlen := rfl
@[simp] theorem clearKey_ctr (s : State) : (clearKey s).ctr = s.ctr := rfl
@[simp] theorem clearKey_key (s : State) : (clearKey s).key = Vector.replicate 16 0 := rfl
@[simp] theorem clearKey_nonce (s : State) : (clearKey s).nonce = s.nonce := rfl
@[simp] theorem clearKey_xtag (s : State) : (clearKey s).xtag = s.xtag := rfl
@[simp] theorem clearKey_tag (s : State) : (clearKey s).tag = s.tag := rfl
@[simp] theorem clearKey_digest (s : State) : (clearKey s).digest = s.digest := rfl
@[simp] theorem clearKey_buf (s : State) : (clearKey s).buf = s.buf := rfl
@[simp] theorem clearKey_cc (s : State) : (clearKey s).cc = s.cc := rfl
@[simp] theorem clearKey_pl (s : State) : (clearKey s).pl = s.pl := rfl
@[simp] theorem clearKey_b2 (s : State) : (clearKey s).b2 = s.b2 := rfl
@[simp] theorem clearKey_xs (s : State) : (clearKey s).xs = s.xs := rfl
@[simp] theorem clearKey_auth (s : State) : (clearKey s).auth = s.auth := rfl
@[simp] theorem clearKey_pending (s : State) : (clearKey s).pending = s.pending := rfl
@[simp] theorem clearKey_response (s : State) : (clearKey s).response = s.response := rfl

/-! ### the bus response -/

@[simp] theorem respond_code (r : Response) (s : State) : (respond r s).code = s.code := rfl
@[simp] theorem respond_lastop (r : Response) (s : State) : (respond r s).lastop = s.lastop := rfl
@[simp] theorem respond_sticky (r : Response) (s : State) : (respond r s).sticky = s.sticky := rfl
@[simp] theorem respond_len (r : Response) (s : State) : (respond r s).len = s.len := rfl
@[simp] theorem respond_klen (r : Response) (s : State) : (respond r s).klen = s.klen := rfl
@[simp] theorem respond_nlen (r : Response) (s : State) : (respond r s).nlen = s.nlen := rfl
@[simp] theorem respond_outlen (r : Response) (s : State) : (respond r s).outlen = s.outlen := rfl
@[simp] theorem respond_xtlen (r : Response) (s : State) : (respond r s).xtlen = s.xtlen := rfl
@[simp] theorem respond_ctr (r : Response) (s : State) : (respond r s).ctr = s.ctr := rfl
@[simp] theorem respond_key (r : Response) (s : State) : (respond r s).key = s.key := rfl
@[simp] theorem respond_nonce (r : Response) (s : State) : (respond r s).nonce = s.nonce := rfl
@[simp] theorem respond_xtag (r : Response) (s : State) : (respond r s).xtag = s.xtag := rfl
@[simp] theorem respond_tag (r : Response) (s : State) : (respond r s).tag = s.tag := rfl
@[simp] theorem respond_digest (r : Response) (s : State) : (respond r s).digest = s.digest := rfl
@[simp] theorem respond_buf (r : Response) (s : State) : (respond r s).buf = s.buf := rfl
@[simp] theorem respond_cc (r : Response) (s : State) : (respond r s).cc = s.cc := rfl
@[simp] theorem respond_pl (r : Response) (s : State) : (respond r s).pl = s.pl := rfl
@[simp] theorem respond_b2 (r : Response) (s : State) : (respond r s).b2 = s.b2 := rfl
@[simp] theorem respond_xs (r : Response) (s : State) : (respond r s).xs = s.xs := rfl
@[simp] theorem respond_auth (r : Response) (s : State) : (respond r s).auth = s.auth := rfl
@[simp] theorem respond_pending (r : Response) (s : State) : (respond r s).pending = s.pending := rfl
@[simp] theorem respond_response (r : Response) (s : State) : (respond r s).response = r := rfl

/-! ### a bus error (20_memory.md R80) -/

@[simp] theorem raiseBusError_code (off : Nat) (s : State) : (raiseBusError off s).code = s.code := rfl
@[simp] theorem raiseBusError_lastop (off : Nat) (s : State) : (raiseBusError off s).lastop = s.lastop := rfl
@[simp] theorem raiseBusError_sticky (off : Nat) (s : State) : (raiseBusError off s).sticky = s.sticky ||| stickyBusErr := rfl
@[simp] theorem raiseBusError_len (off : Nat) (s : State) : (raiseBusError off s).len = s.len := rfl
@[simp] theorem raiseBusError_klen (off : Nat) (s : State) : (raiseBusError off s).klen = s.klen := rfl
@[simp] theorem raiseBusError_nlen (off : Nat) (s : State) : (raiseBusError off s).nlen = s.nlen := rfl
@[simp] theorem raiseBusError_outlen (off : Nat) (s : State) : (raiseBusError off s).outlen = s.outlen := rfl
@[simp] theorem raiseBusError_xtlen (off : Nat) (s : State) : (raiseBusError off s).xtlen = s.xtlen := rfl
@[simp] theorem raiseBusError_ctr (off : Nat) (s : State) : (raiseBusError off s).ctr = s.ctr := rfl
@[simp] theorem raiseBusError_key (off : Nat) (s : State) : (raiseBusError off s).key = s.key := rfl
@[simp] theorem raiseBusError_nonce (off : Nat) (s : State) : (raiseBusError off s).nonce = s.nonce := rfl
@[simp] theorem raiseBusError_xtag (off : Nat) (s : State) : (raiseBusError off s).xtag = s.xtag := rfl
@[simp] theorem raiseBusError_tag (off : Nat) (s : State) : (raiseBusError off s).tag = s.tag := rfl
@[simp] theorem raiseBusError_digest (off : Nat) (s : State) : (raiseBusError off s).digest = s.digest := rfl
@[simp] theorem raiseBusError_buf (off : Nat) (s : State) : (raiseBusError off s).buf = s.buf := rfl
@[simp] theorem raiseBusError_cc (off : Nat) (s : State) : (raiseBusError off s).cc = s.cc := rfl
@[simp] theorem raiseBusError_pl (off : Nat) (s : State) : (raiseBusError off s).pl = s.pl := rfl
@[simp] theorem raiseBusError_b2 (off : Nat) (s : State) : (raiseBusError off s).b2 = s.b2 := rfl
@[simp] theorem raiseBusError_xs (off : Nat) (s : State) : (raiseBusError off s).xs = s.xs := rfl
@[simp] theorem raiseBusError_auth (off : Nat) (s : State) : (raiseBusError off s).auth = s.auth := rfl
@[simp] theorem raiseBusError_pending (off : Nat) (s : State) : (raiseBusError off s).pending = s.pending := rfl
@[simp] theorem raiseBusError_response (off : Nat) (s : State) : (raiseBusError off s).response = .busError off := rfl

/-! ### a device write of one byte of `BUF` (20_memory.md R73) -/

@[simp] theorem setBufB_code (s : State) (i : Nat) (b : Byte) : (setBufB s i b).code = s.code := rfl
@[simp] theorem setBufB_lastop (s : State) (i : Nat) (b : Byte) : (setBufB s i b).lastop = s.lastop := rfl
@[simp] theorem setBufB_sticky (s : State) (i : Nat) (b : Byte) : (setBufB s i b).sticky = s.sticky := rfl
@[simp] theorem setBufB_len (s : State) (i : Nat) (b : Byte) : (setBufB s i b).len = s.len := rfl
@[simp] theorem setBufB_klen (s : State) (i : Nat) (b : Byte) : (setBufB s i b).klen = s.klen := rfl
@[simp] theorem setBufB_nlen (s : State) (i : Nat) (b : Byte) : (setBufB s i b).nlen = s.nlen := rfl
@[simp] theorem setBufB_outlen (s : State) (i : Nat) (b : Byte) : (setBufB s i b).outlen = s.outlen := rfl
@[simp] theorem setBufB_xtlen (s : State) (i : Nat) (b : Byte) : (setBufB s i b).xtlen = s.xtlen := rfl
@[simp] theorem setBufB_ctr (s : State) (i : Nat) (b : Byte) : (setBufB s i b).ctr = s.ctr := rfl
@[simp] theorem setBufB_key (s : State) (i : Nat) (b : Byte) : (setBufB s i b).key = s.key := rfl
@[simp] theorem setBufB_nonce (s : State) (i : Nat) (b : Byte) : (setBufB s i b).nonce = s.nonce := rfl
@[simp] theorem setBufB_xtag (s : State) (i : Nat) (b : Byte) : (setBufB s i b).xtag = s.xtag := rfl
@[simp] theorem setBufB_tag (s : State) (i : Nat) (b : Byte) : (setBufB s i b).tag = s.tag := rfl
@[simp] theorem setBufB_digest (s : State) (i : Nat) (b : Byte) : (setBufB s i b).digest = s.digest := rfl
@[simp] theorem setBufB_buf (s : State) (i : Nat) (b : Byte) : (setBufB s i b).buf = s.buf.setIfInBounds i b := rfl
@[simp] theorem setBufB_cc (s : State) (i : Nat) (b : Byte) : (setBufB s i b).cc = s.cc := rfl
@[simp] theorem setBufB_pl (s : State) (i : Nat) (b : Byte) : (setBufB s i b).pl = s.pl := rfl
@[simp] theorem setBufB_b2 (s : State) (i : Nat) (b : Byte) : (setBufB s i b).b2 = s.b2 := rfl
@[simp] theorem setBufB_xs (s : State) (i : Nat) (b : Byte) : (setBufB s i b).xs = s.xs := rfl
@[simp] theorem setBufB_auth (s : State) (i : Nat) (b : Byte) : (setBufB s i b).auth = s.auth := rfl
@[simp] theorem setBufB_pending (s : State) (i : Nat) (b : Byte) : (setBufB s i b).pending = s.pending := rfl
@[simp] theorem setBufB_response (s : State) (i : Nat) (b : Byte) : (setBufB s i b).response = s.response := rfl

/-! ### `CCNextBlock` (41_chacha20.md R164) -/

@[simp] theorem ccNextBlock_code (s : State) : (ccNextBlock s).code = s.code := rfl
@[simp] theorem ccNextBlock_lastop (s : State) : (ccNextBlock s).lastop = s.lastop := rfl
@[simp] theorem ccNextBlock_sticky (s : State) : (ccNextBlock s).sticky = if add32 s.cc.st[12] 1 = 0 then s.sticky ||| stickyCcWrap else s.sticky := rfl
@[simp] theorem ccNextBlock_len (s : State) : (ccNextBlock s).len = s.len := rfl
@[simp] theorem ccNextBlock_klen (s : State) : (ccNextBlock s).klen = s.klen := rfl
@[simp] theorem ccNextBlock_nlen (s : State) : (ccNextBlock s).nlen = s.nlen := rfl
@[simp] theorem ccNextBlock_outlen (s : State) : (ccNextBlock s).outlen = s.outlen := rfl
@[simp] theorem ccNextBlock_xtlen (s : State) : (ccNextBlock s).xtlen = s.xtlen := rfl
@[simp] theorem ccNextBlock_ctr (s : State) : (ccNextBlock s).ctr = s.ctr := rfl
@[simp] theorem ccNextBlock_key (s : State) : (ccNextBlock s).key = s.key := rfl
@[simp] theorem ccNextBlock_nonce (s : State) : (ccNextBlock s).nonce = s.nonce := rfl
@[simp] theorem ccNextBlock_xtag (s : State) : (ccNextBlock s).xtag = s.xtag := rfl
@[simp] theorem ccNextBlock_tag (s : State) : (ccNextBlock s).tag = s.tag := rfl
@[simp] theorem ccNextBlock_digest (s : State) : (ccNextBlock s).digest = s.digest := rfl
@[simp] theorem ccNextBlock_buf (s : State) : (ccNextBlock s).buf = s.buf := rfl
@[simp] theorem ccNextBlock_cc (s : State) : (ccNextBlock s).cc = { s.cc with blk := ccBlock s.cc.st, st := s.cc.st.set 12 (add32 s.cc.st[12] 1), avail := 64 } := rfl
@[simp] theorem ccNextBlock_pl (s : State) : (ccNextBlock s).pl = s.pl := rfl
@[simp] theorem ccNextBlock_b2 (s : State) : (ccNextBlock s).b2 = s.b2 := rfl
@[simp] theorem ccNextBlock_xs (s : State) : (ccNextBlock s).xs = s.xs := rfl
@[simp] theorem ccNextBlock_auth (s : State) : (ccNextBlock s).auth = s.auth := rfl
@[simp] theorem ccNextBlock_pending (s : State) : (ccNextBlock s).pending = s.pending := rfl
@[simp] theorem ccNextBlock_response (s : State) : (ccNextBlock s).response = s.response := rfl

/-! ### `SANextBlock` (44_xsalsa20.md R236) -/

@[simp] theorem saNextBlock_code (s : State) : (saNextBlock s).code = s.code := rfl
@[simp] theorem saNextBlock_lastop (s : State) : (saNextBlock s).lastop = s.lastop := rfl
@[simp] theorem saNextBlock_sticky (s : State) : (saNextBlock s).sticky = if (xsCounter s.xs).toNat + 1 = 2 ^ 64 then s.sticky ||| stickyXsWrap else s.sticky := rfl
@[simp] theorem saNextBlock_len (s : State) : (saNextBlock s).len = s.len := rfl
@[simp] theorem saNextBlock_klen (s : State) : (saNextBlock s).klen = s.klen := rfl
@[simp] theorem saNextBlock_nlen (s : State) : (saNextBlock s).nlen = s.nlen := rfl
@[simp] theorem saNextBlock_outlen (s : State) : (saNextBlock s).outlen = s.outlen := rfl
@[simp] theorem saNextBlock_xtlen (s : State) : (saNextBlock s).xtlen = s.xtlen := rfl
@[simp] theorem saNextBlock_ctr (s : State) : (saNextBlock s).ctr = s.ctr := rfl
@[simp] theorem saNextBlock_key (s : State) : (saNextBlock s).key = s.key := rfl
@[simp] theorem saNextBlock_nonce (s : State) : (saNextBlock s).nonce = s.nonce := rfl
@[simp] theorem saNextBlock_xtag (s : State) : (saNextBlock s).xtag = s.xtag := rfl
@[simp] theorem saNextBlock_tag (s : State) : (saNextBlock s).tag = s.tag := rfl
@[simp] theorem saNextBlock_digest (s : State) : (saNextBlock s).digest = s.digest := rfl
@[simp] theorem saNextBlock_buf (s : State) : (saNextBlock s).buf = s.buf := rfl
@[simp] theorem saNextBlock_cc (s : State) : (saNextBlock s).cc = s.cc := rfl
@[simp] theorem saNextBlock_pl (s : State) : (saNextBlock s).pl = s.pl := rfl
@[simp] theorem saNextBlock_b2 (s : State) : (saNextBlock s).b2 = s.b2 := rfl
@[simp] theorem saNextBlock_xs (s : State) : (saNextBlock s).xs = { s.xs with
        blk := saBlock s.xs.st
        st := (s.xs.st.set 8 (BitVec.ofNat 32 ((xsCounter s.xs).toNat + 1))).set 9 (BitVec.ofNat 32 (((xsCounter s.xs).toNat + 1) / 2 ^ 32))
        avail := 64 } := rfl
@[simp] theorem saNextBlock_auth (s : State) : (saNextBlock s).auth = s.auth := rfl
@[simp] theorem saNextBlock_pending (s : State) : (saNextBlock s).pending = s.pending := rfl
@[simp] theorem saNextBlock_response (s : State) : (saNextBlock s).response = s.response := rfl

/-! ### the host's next transaction -/

@[simp] theorem takeEvent_code (rest : List HostEvent) (s : State) : (takeEvent rest s).code = s.code := rfl
@[simp] theorem takeEvent_lastop (rest : List HostEvent) (s : State) : (takeEvent rest s).lastop = s.lastop := rfl
@[simp] theorem takeEvent_sticky (rest : List HostEvent) (s : State) : (takeEvent rest s).sticky = s.sticky := rfl
@[simp] theorem takeEvent_len (rest : List HostEvent) (s : State) : (takeEvent rest s).len = s.len := rfl
@[simp] theorem takeEvent_klen (rest : List HostEvent) (s : State) : (takeEvent rest s).klen = s.klen := rfl
@[simp] theorem takeEvent_nlen (rest : List HostEvent) (s : State) : (takeEvent rest s).nlen = s.nlen := rfl
@[simp] theorem takeEvent_outlen (rest : List HostEvent) (s : State) : (takeEvent rest s).outlen = s.outlen := rfl
@[simp] theorem takeEvent_xtlen (rest : List HostEvent) (s : State) : (takeEvent rest s).xtlen = s.xtlen := rfl
@[simp] theorem takeEvent_ctr (rest : List HostEvent) (s : State) : (takeEvent rest s).ctr = s.ctr := rfl
@[simp] theorem takeEvent_key (rest : List HostEvent) (s : State) : (takeEvent rest s).key = s.key := rfl
@[simp] theorem takeEvent_nonce (rest : List HostEvent) (s : State) : (takeEvent rest s).nonce = s.nonce := rfl
@[simp] theorem takeEvent_xtag (rest : List HostEvent) (s : State) : (takeEvent rest s).xtag = s.xtag := rfl
@[simp] theorem takeEvent_tag (rest : List HostEvent) (s : State) : (takeEvent rest s).tag = s.tag := rfl
@[simp] theorem takeEvent_digest (rest : List HostEvent) (s : State) : (takeEvent rest s).digest = s.digest := rfl
@[simp] theorem takeEvent_buf (rest : List HostEvent) (s : State) : (takeEvent rest s).buf = s.buf := rfl
@[simp] theorem takeEvent_cc (rest : List HostEvent) (s : State) : (takeEvent rest s).cc = s.cc := rfl
@[simp] theorem takeEvent_pl (rest : List HostEvent) (s : State) : (takeEvent rest s).pl = s.pl := rfl
@[simp] theorem takeEvent_b2 (rest : List HostEvent) (s : State) : (takeEvent rest s).b2 = s.b2 := rfl
@[simp] theorem takeEvent_xs (rest : List HostEvent) (s : State) : (takeEvent rest s).xs = s.xs := rfl
@[simp] theorem takeEvent_auth (rest : List HostEvent) (s : State) : (takeEvent rest s).auth = s.auth := rfl
@[simp] theorem takeEvent_pending (rest : List HostEvent) (s : State) : (takeEvent rest s).pending = rest := rfl
@[simp] theorem takeEvent_response (rest : List HostEvent) (s : State) : (takeEvent rest s).response = s.response := rfl

/-! ### reset (70_reset_and_hazards.md R330) -/

@[simp] theorem resetDevice_code (s : State) : (resetDevice s).code = State.reset.code := rfl
@[simp] theorem resetDevice_lastop (s : State) : (resetDevice s).lastop = State.reset.lastop := rfl
@[simp] theorem resetDevice_sticky (s : State) : (resetDevice s).sticky = State.reset.sticky := rfl
@[simp] theorem resetDevice_len (s : State) : (resetDevice s).len = State.reset.len := rfl
@[simp] theorem resetDevice_klen (s : State) : (resetDevice s).klen = State.reset.klen := rfl
@[simp] theorem resetDevice_nlen (s : State) : (resetDevice s).nlen = State.reset.nlen := rfl
@[simp] theorem resetDevice_outlen (s : State) : (resetDevice s).outlen = State.reset.outlen := rfl
@[simp] theorem resetDevice_xtlen (s : State) : (resetDevice s).xtlen = State.reset.xtlen := rfl
@[simp] theorem resetDevice_ctr (s : State) : (resetDevice s).ctr = State.reset.ctr := rfl
@[simp] theorem resetDevice_key (s : State) : (resetDevice s).key = State.reset.key := rfl
@[simp] theorem resetDevice_nonce (s : State) : (resetDevice s).nonce = State.reset.nonce := rfl
@[simp] theorem resetDevice_xtag (s : State) : (resetDevice s).xtag = State.reset.xtag := rfl
@[simp] theorem resetDevice_tag (s : State) : (resetDevice s).tag = State.reset.tag := rfl
@[simp] theorem resetDevice_digest (s : State) : (resetDevice s).digest = State.reset.digest := rfl
@[simp] theorem resetDevice_buf (s : State) : (resetDevice s).buf = State.reset.buf := rfl
@[simp] theorem resetDevice_cc (s : State) : (resetDevice s).cc = State.reset.cc := rfl
@[simp] theorem resetDevice_pl (s : State) : (resetDevice s).pl = State.reset.pl := rfl
@[simp] theorem resetDevice_b2 (s : State) : (resetDevice s).b2 = State.reset.b2 := rfl
@[simp] theorem resetDevice_xs (s : State) : (resetDevice s).xs = State.reset.xs := rfl
@[simp] theorem resetDevice_auth (s : State) : (resetDevice s).auth = State.reset.auth := rfl
@[simp] theorem resetDevice_pending (s : State) : (resetDevice s).pending = s.pending := rfl
@[simp] theorem resetDevice_response (s : State) : (resetDevice s).response = State.reset.response := rfl

/-! ### The refill of a block buffer: every field but the engine's own and `STICKY` -/

@[simp] theorem ccRefill_code (s : State) : (ccRefill s).code = s.code := by unfold ccRefill; split <;> rfl
@[simp] theorem ccRefill_lastop (s : State) : (ccRefill s).lastop = s.lastop := by unfold ccRefill; split <;> rfl
@[simp] theorem ccRefill_len (s : State) : (ccRefill s).len = s.len := by unfold ccRefill; split <;> rfl
@[simp] theorem ccRefill_klen (s : State) : (ccRefill s).klen = s.klen := by unfold ccRefill; split <;> rfl
@[simp] theorem ccRefill_nlen (s : State) : (ccRefill s).nlen = s.nlen := by unfold ccRefill; split <;> rfl
@[simp] theorem ccRefill_outlen (s : State) : (ccRefill s).outlen = s.outlen := by unfold ccRefill; split <;> rfl
@[simp] theorem ccRefill_xtlen (s : State) : (ccRefill s).xtlen = s.xtlen := by unfold ccRefill; split <;> rfl
@[simp] theorem ccRefill_ctr (s : State) : (ccRefill s).ctr = s.ctr := by unfold ccRefill; split <;> rfl
@[simp] theorem ccRefill_key (s : State) : (ccRefill s).key = s.key := by unfold ccRefill; split <;> rfl
@[simp] theorem ccRefill_nonce (s : State) : (ccRefill s).nonce = s.nonce := by unfold ccRefill; split <;> rfl
@[simp] theorem ccRefill_xtag (s : State) : (ccRefill s).xtag = s.xtag := by unfold ccRefill; split <;> rfl
@[simp] theorem ccRefill_tag (s : State) : (ccRefill s).tag = s.tag := by unfold ccRefill; split <;> rfl
@[simp] theorem ccRefill_digest (s : State) : (ccRefill s).digest = s.digest := by unfold ccRefill; split <;> rfl
@[simp] theorem ccRefill_buf (s : State) : (ccRefill s).buf = s.buf := by unfold ccRefill; split <;> rfl
@[simp] theorem ccRefill_pl (s : State) : (ccRefill s).pl = s.pl := by unfold ccRefill; split <;> rfl
@[simp] theorem ccRefill_b2 (s : State) : (ccRefill s).b2 = s.b2 := by unfold ccRefill; split <;> rfl
@[simp] theorem ccRefill_xs (s : State) : (ccRefill s).xs = s.xs := by unfold ccRefill; split <;> rfl
@[simp] theorem ccRefill_auth (s : State) : (ccRefill s).auth = s.auth := by unfold ccRefill; split <;> rfl
@[simp] theorem ccRefill_pending (s : State) : (ccRefill s).pending = s.pending := by unfold ccRefill; split <;> rfl
@[simp] theorem ccRefill_response (s : State) : (ccRefill s).response = s.response := by unfold ccRefill; split <;> rfl

/-! ### The refill of a block buffer: every field but the engine's own and `STICKY` -/

@[simp] theorem xsRefill_code (s : State) : (xsRefill s).code = s.code := by unfold xsRefill; split <;> rfl
@[simp] theorem xsRefill_lastop (s : State) : (xsRefill s).lastop = s.lastop := by unfold xsRefill; split <;> rfl
@[simp] theorem xsRefill_len (s : State) : (xsRefill s).len = s.len := by unfold xsRefill; split <;> rfl
@[simp] theorem xsRefill_klen (s : State) : (xsRefill s).klen = s.klen := by unfold xsRefill; split <;> rfl
@[simp] theorem xsRefill_nlen (s : State) : (xsRefill s).nlen = s.nlen := by unfold xsRefill; split <;> rfl
@[simp] theorem xsRefill_outlen (s : State) : (xsRefill s).outlen = s.outlen := by unfold xsRefill; split <;> rfl
@[simp] theorem xsRefill_xtlen (s : State) : (xsRefill s).xtlen = s.xtlen := by unfold xsRefill; split <;> rfl
@[simp] theorem xsRefill_ctr (s : State) : (xsRefill s).ctr = s.ctr := by unfold xsRefill; split <;> rfl
@[simp] theorem xsRefill_key (s : State) : (xsRefill s).key = s.key := by unfold xsRefill; split <;> rfl
@[simp] theorem xsRefill_nonce (s : State) : (xsRefill s).nonce = s.nonce := by unfold xsRefill; split <;> rfl
@[simp] theorem xsRefill_xtag (s : State) : (xsRefill s).xtag = s.xtag := by unfold xsRefill; split <;> rfl
@[simp] theorem xsRefill_tag (s : State) : (xsRefill s).tag = s.tag := by unfold xsRefill; split <;> rfl
@[simp] theorem xsRefill_digest (s : State) : (xsRefill s).digest = s.digest := by unfold xsRefill; split <;> rfl
@[simp] theorem xsRefill_buf (s : State) : (xsRefill s).buf = s.buf := by unfold xsRefill; split <;> rfl
@[simp] theorem xsRefill_cc (s : State) : (xsRefill s).cc = s.cc := by unfold xsRefill; split <;> rfl
@[simp] theorem xsRefill_pl (s : State) : (xsRefill s).pl = s.pl := by unfold xsRefill; split <;> rfl
@[simp] theorem xsRefill_b2 (s : State) : (xsRefill s).b2 = s.b2 := by unfold xsRefill; split <;> rfl
@[simp] theorem xsRefill_auth (s : State) : (xsRefill s).auth = s.auth := by unfold xsRefill; split <;> rfl
@[simp] theorem xsRefill_pending (s : State) : (xsRefill s).pending = s.pending := by unfold xsRefill; split <;> rfl
@[simp] theorem xsRefill_response (s : State) : (xsRefill s).response = s.response := by unfold xsRefill; split <;> rfl

/-! ### One pass of a stream XOR (R161, R231) -/

@[simp] theorem ccXorByte_code (i : Nat) (s : State) : (ccXorByte i s).code = s.code := ccRefill_code s
@[simp] theorem ccXorByte_lastop (i : Nat) (s : State) : (ccXorByte i s).lastop = s.lastop := ccRefill_lastop s
@[simp] theorem ccXorByte_sticky (i : Nat) (s : State) : (ccXorByte i s).sticky = (ccRefill s).sticky := rfl
@[simp] theorem ccXorByte_len (i : Nat) (s : State) : (ccXorByte i s).len = s.len := ccRefill_len s
@[simp] theorem ccXorByte_klen (i : Nat) (s : State) : (ccXorByte i s).klen = s.klen := ccRefill_klen s
@[simp] theorem ccXorByte_nlen (i : Nat) (s : State) : (ccXorByte i s).nlen = s.nlen := ccRefill_nlen s
@[simp] theorem ccXorByte_outlen (i : Nat) (s : State) : (ccXorByte i s).outlen = s.outlen := ccRefill_outlen s
@[simp] theorem ccXorByte_xtlen (i : Nat) (s : State) : (ccXorByte i s).xtlen = s.xtlen := ccRefill_xtlen s
@[simp] theorem ccXorByte_ctr (i : Nat) (s : State) : (ccXorByte i s).ctr = s.ctr := ccRefill_ctr s
@[simp] theorem ccXorByte_key (i : Nat) (s : State) : (ccXorByte i s).key = s.key := ccRefill_key s
@[simp] theorem ccXorByte_nonce (i : Nat) (s : State) : (ccXorByte i s).nonce = s.nonce := ccRefill_nonce s
@[simp] theorem ccXorByte_xtag (i : Nat) (s : State) : (ccXorByte i s).xtag = s.xtag := ccRefill_xtag s
@[simp] theorem ccXorByte_tag (i : Nat) (s : State) : (ccXorByte i s).tag = s.tag := ccRefill_tag s
@[simp] theorem ccXorByte_digest (i : Nat) (s : State) : (ccXorByte i s).digest = s.digest := ccRefill_digest s
@[simp] theorem ccXorByte_buf (i : Nat) (s : State) : (ccXorByte i s).buf = s.buf.setIfInBounds i (bufB s i ^^^ ccKeyByte (ccRefill s).cc) := by simp [ccXorByte, bufB]
@[simp] theorem ccXorByte_cc (i : Nat) (s : State) : (ccXorByte i s).cc = { (ccRefill s).cc with avail := (ccRefill s).cc.avail - 1 } := rfl
@[simp] theorem ccXorByte_pl (i : Nat) (s : State) : (ccXorByte i s).pl = s.pl := ccRefill_pl s
@[simp] theorem ccXorByte_b2 (i : Nat) (s : State) : (ccXorByte i s).b2 = s.b2 := ccRefill_b2 s
@[simp] theorem ccXorByte_xs (i : Nat) (s : State) : (ccXorByte i s).xs = s.xs := ccRefill_xs s
@[simp] theorem ccXorByte_auth (i : Nat) (s : State) : (ccXorByte i s).auth = s.auth := ccRefill_auth s
@[simp] theorem ccXorByte_pending (i : Nat) (s : State) : (ccXorByte i s).pending = s.pending := ccRefill_pending s
@[simp] theorem ccXorByte_response (i : Nat) (s : State) : (ccXorByte i s).response = s.response := ccRefill_response s

/-! ### One pass of a stream XOR (R161, R231) -/

@[simp] theorem xsXorByte_code (i : Nat) (s : State) : (xsXorByte i s).code = s.code := xsRefill_code s
@[simp] theorem xsXorByte_lastop (i : Nat) (s : State) : (xsXorByte i s).lastop = s.lastop := xsRefill_lastop s
@[simp] theorem xsXorByte_sticky (i : Nat) (s : State) : (xsXorByte i s).sticky = (xsRefill s).sticky := rfl
@[simp] theorem xsXorByte_len (i : Nat) (s : State) : (xsXorByte i s).len = s.len := xsRefill_len s
@[simp] theorem xsXorByte_klen (i : Nat) (s : State) : (xsXorByte i s).klen = s.klen := xsRefill_klen s
@[simp] theorem xsXorByte_nlen (i : Nat) (s : State) : (xsXorByte i s).nlen = s.nlen := xsRefill_nlen s
@[simp] theorem xsXorByte_outlen (i : Nat) (s : State) : (xsXorByte i s).outlen = s.outlen := xsRefill_outlen s
@[simp] theorem xsXorByte_xtlen (i : Nat) (s : State) : (xsXorByte i s).xtlen = s.xtlen := xsRefill_xtlen s
@[simp] theorem xsXorByte_ctr (i : Nat) (s : State) : (xsXorByte i s).ctr = s.ctr := xsRefill_ctr s
@[simp] theorem xsXorByte_key (i : Nat) (s : State) : (xsXorByte i s).key = s.key := xsRefill_key s
@[simp] theorem xsXorByte_nonce (i : Nat) (s : State) : (xsXorByte i s).nonce = s.nonce := xsRefill_nonce s
@[simp] theorem xsXorByte_xtag (i : Nat) (s : State) : (xsXorByte i s).xtag = s.xtag := xsRefill_xtag s
@[simp] theorem xsXorByte_tag (i : Nat) (s : State) : (xsXorByte i s).tag = s.tag := xsRefill_tag s
@[simp] theorem xsXorByte_digest (i : Nat) (s : State) : (xsXorByte i s).digest = s.digest := xsRefill_digest s
@[simp] theorem xsXorByte_buf (i : Nat) (s : State) : (xsXorByte i s).buf = s.buf.setIfInBounds i (bufB s i ^^^ xsKeyByte (xsRefill s).xs) := by simp [xsXorByte, bufB]
@[simp] theorem xsXorByte_cc (i : Nat) (s : State) : (xsXorByte i s).cc = s.cc := xsRefill_cc s
@[simp] theorem xsXorByte_pl (i : Nat) (s : State) : (xsXorByte i s).pl = s.pl := xsRefill_pl s
@[simp] theorem xsXorByte_b2 (i : Nat) (s : State) : (xsXorByte i s).b2 = s.b2 := xsRefill_b2 s
@[simp] theorem xsXorByte_xs (i : Nat) (s : State) : (xsXorByte i s).xs = { (xsRefill s).xs with avail := (xsRefill s).xs.avail - 1 } := rfl
@[simp] theorem xsXorByte_auth (i : Nat) (s : State) : (xsXorByte i s).auth = s.auth := xsRefill_auth s
@[simp] theorem xsXorByte_pending (i : Nat) (s : State) : (xsXorByte i s).pending = s.pending := xsRefill_pending s
@[simp] theorem xsXorByte_response (i : Nat) (s : State) : (xsXorByte i s).response = s.response := xsRefill_response s

end Sys2Proof.Machine
end

