-- ==== Sys2Proof/Laws/Ops.lean ====
section
/-! SUPPORT. For each shared operation what it can do, said once: loops, completion, byte views, the access rules of the
window, the step. Later proofs cite these and do not unfold the operations. -/

namespace Sys2Proof.Machine

/-! ### Loops -/

@[simp] theorem forUpTo_zero {α : Type} (body : Nat → α → α) (x : α) : forUpTo body 0 x = x := rfl

theorem forUpTo_succ {α : Type} (body : Nat → α → α) (n : Nat) (x : α) :
    forUpTo body (n + 1) x = body n (forUpTo body n x) := rfl

/-- What every pass keeps, the loop keeps. -/
theorem forUpTo_keeps {α β : Type} (p : α → β) (body : Nat → α → α) (h : ∀ i x, p (body i x) = p x) (n : Nat) (x : α) :
    p (forUpTo body n x) = p x := by
  induction n with
  | zero => rfl
  | succ n ih => rw [forUpTo_succ, h, ih]

/-- A loop invariant indexed by the number of passes done. -/
theorem forUpTo_invariant {α : Type} (P : Nat → α → Prop) (body : Nat → α → α) (n : Nat) (x : α) (h0 : P 0 x)
    (hs : ∀ i y, i < n → P i y → P (i + 1) (body i y)) : P n (forUpTo body n x) := by
  have key : ∀ k, k ≤ n → P k (forUpTo body k x) := by
    intro k
    induction k with
    | zero => exact fun _ => h0
    | succ k ih => exact fun hk => hs k _ hk (ih (Nat.le_of_succ_le hk))
  exact key n (Nat.le_refl n)

@[simp] theorem applyTimes_zero {α : Type} (f : α → α) (x : α) : applyTimes f 0 x = x := rfl

theorem applyTimes_succ {α : Type} (f : α → α) (n : Nat) (x : α) : applyTimes f (n + 1) x = f (applyTimes f n x) := rfl

/-! ### Completion (60_exceptions.md R290) -/

theorem endWith_eq (opc : Byte) (c : Code) (s : State) : endWith opc c s = .next (complete opc c s) := rfl

/-- A completion with `OK` sets no sticky bit. -/
@[simp] theorem complete_ok (opc : Byte) (s : State) : complete opc .ok s = { s with code := .ok, lastop := opc } := by
  simp [complete, codeSticky]

/-- The class bits are among bits 0 to 2: completion never touches `BUSERR`, `CC_WRAP`, `XS_WRAP`. -/
theorem codeSticky_high (c : Code) (k : Nat) (hk : 3 ≤ k) : (codeSticky c).getLsbD k = false := by
  by_cases h : k < 6
  · have : k = 3 ∨ k = 4 ∨ k = 5 := by omega
    rcases this with rfl | rfl | rfl <;> cases c <;> decide
  · exact BitVec.getLsbD_of_ge _ _ (by omega)

/-! ### Byte views -/

/-- Reading a byte of `BUF` after writing one. -/
theorem bufB_setBufB (s : State) (i j : Nat) (b : Byte) :
    bufB (setBufB s i b) j = if i = j ∧ j < 128 then b else bufB s j := by
  unfold bufB setBufB
  by_cases hj : j < 128
  · simp [Vector.getD, hj, Array.getElem_setIfInBounds]
  · simp [Vector.getD, hj]

@[simp] theorem bytesOf_length (n : Nat) (f : Nat → Byte) : (bytesOf n f).length = n := by simp [bytesOf]

@[simp] theorem bytesOf_getElem (n : Nat) (f : Nat → Byte) (i : Nat) (h : i < (bytesOf n f).length) :
    (bytesOf n f)[i] = f i := by simp [bytesOf]

/-! ### The window (20_memory.md) -/

/-- Which register an access reaches. -/
theorem accessTarget_eq_some (off size : Nat) (r : Reg) :
    accessTarget off size = some r ↔ size = 4 ∧ regAt off = some r := by
  unfold accessTarget
  by_cases h : size = 4 <;> simp [h]

/-- Which accesses end with `BusError`. -/
theorem accessTarget_eq_none (off size : Nat) :
    accessTarget off size = none ↔ size ≠ 4 ∨ regAt off = none := by
  unfold accessTarget
  by_cases h : size = 4 <;> simp [h]

/-- A read returns a register's value or raises a bus error, and does nothing else (R76). -/
theorem memRead_cases (off size : Nat) (s : State) :
    (accessTarget off size = none ∧ memRead off size s = raiseBusError off s) ∨
      (∃ r, accessTarget off size = some r ∧ memRead off size s = respond (.data (regRead s r)) s) := by
  unfold memRead
  cases h : accessTarget off size with
  | none => exact .inl ⟨rfl, rfl⟩
  | some r => exact .inr ⟨r, rfl, rfl⟩

/-- A write raises a bus error, runs a command or writes a register (R77). -/
theorem memWrite_cases (off size : Nat) (v : Word) (s : State) :
    (accessTarget off size = none ∧ memWrite off size v s = .next (raiseBusError off s)) ∨
      (accessTarget off size = some .cmd ∧ memWrite off size v s = runCommand v (respond .written s)) ∨
      (∃ r, r ≠ .cmd ∧ accessTarget off size = some r ∧
        memWrite off size v s = .next (respond .written (regWrite s v r))) := by
  unfold memWrite
  cases h : accessTarget off size with
  | none => exact .inl ⟨rfl, rfl⟩
  | some r =>
    by_cases hr : r = .cmd
    · subst hr; exact .inr (.inl ⟨rfl, rfl⟩)
    · refine .inr (.inr ⟨r, hr, rfl, ?_⟩)
      cases r <;> first | rfl | exact absurd rfl hr

/-- A command word runs a decoded command or completes `E_ILLCMD` (R100, R104, R105). -/
theorem runCommand_cases (w : Word) (s : State) :
    (∃ i, decode w = .ok i ∧ runCommand w s = exec i s) ∨
      (∃ e, decode w = .error e ∧ runCommand w s = .next (complete (fieldOpc w) .eIllcmd s)) := by
  unfold runCommand
  cases h : decode w with
  | ok i => exact .inl ⟨i, rfl, rfl⟩
  | error e => exact .inr ⟨e, rfl, rfl⟩

/-- What one step can be (00_scope.md R8, R9). -/
theorem step_cases (s : State) :
    (s.pending = [] ∧ step s = .next s) ∨
      (∃ e rest, s.pending = e :: rest ∧ step s = transact e (takeEvent rest s)) := by
  unfold step
  cases h : s.pending with
  | nil => exact .inl ⟨rfl, rfl⟩
  | cons e rest => exact .inr ⟨e, rest, rfl, rfl⟩

/-! ### What one pass of a data loop keeps (41_chacha20.md R161, 42_poly1305.md R181, 45_blake2b.md R251) -/

@[simp] theorem polyStore_valid (b : Byte) (p : PL) : (polyStore b p).valid = p.valid := rfl
@[simp] theorem polyStore_done (b : Byte) (p : PL) : (polyStore b p).done = p.done := rfl
@[simp] theorem polyStore_link (b : Byte) (p : PL) : (polyStore b p).link = p.link := rfl
@[simp] theorem polyStore_r (b : Byte) (p : PL) : (polyStore b p).r = p.r := rfl
@[simp] theorem polyStore_pad (b : Byte) (p : PL) : (polyStore b p).pad = p.pad := rfl
@[simp] theorem polyStore_h (b : Byte) (p : PL) : (polyStore b p).h = p.h := rfl
@[simp] theorem polyStore_lbuf (b : Byte) (p : PL) : (polyStore b p).lbuf = p.lbuf.setIfInBounds p.lfill b := rfl
@[simp] theorem polyStore_lfill (b : Byte) (p : PL) : (polyStore b p).lfill = p.lfill + 1 := rfl
@[simp] theorem polyFlush_valid (n : Nat) (p : PL) : (polyFlush n p).valid = p.valid := rfl
@[simp] theorem polyFlush_done (n : Nat) (p : PL) : (polyFlush n p).done = p.done := rfl
@[simp] theorem polyFlush_link (n : Nat) (p : PL) : (polyFlush n p).link = p.link := rfl
@[simp] theorem polyFlush_r (n : Nat) (p : PL) : (polyFlush n p).r = p.r := rfl
@[simp] theorem polyFlush_pad (n : Nat) (p : PL) : (polyFlush n p).pad = p.pad := rfl
@[simp] theorem polyFlush_h (n : Nat) (p : PL) : (polyFlush n p).h = polyStep p.r.toNat p.h n := rfl
@[simp] theorem polyFlush_lbuf (n : Nat) (p : PL) : (polyFlush n p).lbuf = Vector.replicate 16 0 := rfl
@[simp] theorem polyFlush_lfill (n : Nat) (p : PL) : (polyFlush n p).lfill = 0 := rfl

/-- What absorbing one byte can do. -/
theorem polyAbsorb_cases (b : Byte) (p : PL) :
    (p.lfill + 1 ≠ 16 ∧ polyAbsorb b p = polyStore b p) ∨
      (p.lfill + 1 = 16 ∧
        polyAbsorb b p = polyFlush (polyHighBit + leint (p.lbuf.setIfInBounds p.lfill b).toList) (polyStore b p)) := by
  unfold polyAbsorb
  by_cases h : p.lfill + 1 = 16
  · exact .inr ⟨h, if_pos h⟩
  · exact .inl ⟨h, if_neg h⟩

theorem polyAbsorb_valid (b : Byte) (p : PL) : (polyAbsorb b p).valid = p.valid := by
  rcases polyAbsorb_cases b p with ⟨_, h⟩ | ⟨_, h⟩ <;> rw [h] <;> simp

theorem polyAbsorb_done (b : Byte) (p : PL) : (polyAbsorb b p).done = p.done := by
  rcases polyAbsorb_cases b p with ⟨_, h⟩ | ⟨_, h⟩ <;> rw [h] <;> simp

theorem polyAbsorb_link (b : Byte) (p : PL) : (polyAbsorb b p).link = p.link := by
  rcases polyAbsorb_cases b p with ⟨_, h⟩ | ⟨_, h⟩ <;> rw [h] <;> simp

theorem polyAbsorb_r (b : Byte) (p : PL) : (polyAbsorb b p).r = p.r := by
  rcases polyAbsorb_cases b p with ⟨_, h⟩ | ⟨_, h⟩ <;> rw [h] <;> simp

theorem polyAbsorb_pad (b : Byte) (p : PL) : (polyAbsorb b p).pad = p.pad := by
  rcases polyAbsorb_cases b p with ⟨_, h⟩ | ⟨_, h⟩ <;> rw [h] <;> simp

theorem b2Flush_valid (c : B2) : (b2Flush c).valid = c.valid := by unfold b2Flush; split <;> rfl

theorem b2Flush_done (c : B2) : (b2Flush c).done = c.done := by unfold b2Flush; split <;> rfl

theorem b2Flush_outlen (c : B2) : (b2Flush c).outlen = c.outlen := by unfold b2Flush; split <;> rfl

theorem b2Absorb_valid (b : Byte) (c : B2) : (b2Absorb b c).valid = c.valid := b2Flush_valid c

theorem b2Absorb_done (b : Byte) (c : B2) : (b2Absorb b c).done = c.done := b2Flush_done c

theorem b2Absorb_outlen (b : Byte) (c : B2) : (b2Absorb b c).outlen = c.outlen := b2Flush_outlen c

end Sys2Proof.Machine
end

