-- ==== Sys2Proof/Laws/PerInstr.lean ====
section
/-! SUPPORT. The per-instruction family `EncodeFields`: the three fields of a command's word (30_encoding.md R101), one
lemma per constructor of `Instr`. -/

namespace Sys2Proof.Laws

/-- The fields of `encode i` are the command's opcode, its `ARG` and sixteen zero bits (R101). -/
def EncodeFields.Statement (i : Instr) : Prop :=
  fieldOpc (encode i) = opcodeOf i ∧ fieldArg (encode i) = argOf i ∧ fieldRsvd (encode i) = 0#16

/-- The fields of a word put together from an `ARG` and an opcode. -/
theorem encode_fields (a o : Byte) :
    fieldOpc ((0#16 ++ a) ++ o) = o ∧ fieldArg ((0#16 ++ a) ++ o) = a ∧ fieldRsvd ((0#16 ++ a) ++ o) = 0#16 := by
  have h8 : ∀ j, j < 8 → ((0#16 ++ a) ++ o).getLsbD j = o.getLsbD j := fun j hj => by
    rw [BitVec.getLsbD_append, if_pos hj]
  have h16 : ∀ j, j < 8 → ((0#16 ++ a) ++ o).getLsbD (8 + j) = a.getLsbD j := fun j hj => by
    rw [BitVec.getLsbD_append, if_neg (by omega), BitVec.getLsbD_append, if_pos (by omega), Nat.add_sub_cancel_left]
  have h32 : ∀ j, j < 16 → ((0#16 ++ a) ++ o).getLsbD (16 + j) = false := fun j hj => by
    rw [BitVec.getLsbD_append, if_neg (by omega), BitVec.getLsbD_append, if_neg (by omega)]; simp
  refine ⟨?_, ?_, ?_⟩ <;> apply BitVec.eq_of_getLsbD_eq <;> intro j hj
  · simpa [fieldOpc, hj] using h8 j hj
  · simpa [fieldArg, hj] using h16 j hj
  · simpa [fieldRsvd, hj] using h32 j hj

theorem EncodeFields.nop : EncodeFields.Statement .nop := by unfold EncodeFields.Statement; decide
theorem EncodeFields.zeroize (arg : Byte) : EncodeFields.Statement (.zeroize arg) :=
  encode_fields arg _
theorem EncodeFields.ccInit : EncodeFields.Statement .ccInit := by unfold EncodeFields.Statement; decide
theorem EncodeFields.ccXor : EncodeFields.Statement .ccXor := by unfold EncodeFields.Statement; decide
theorem EncodeFields.ccPolykey (arg : Byte) : EncodeFields.Statement (.ccPolykey arg) :=
  encode_fields arg _
theorem EncodeFields.plInit : EncodeFields.Statement .plInit := by unfold EncodeFields.Statement; decide
theorem EncodeFields.plUpdate : EncodeFields.Statement .plUpdate := by unfold EncodeFields.Statement; decide
theorem EncodeFields.plFinish : EncodeFields.Statement .plFinish := by unfold EncodeFields.Statement; decide
theorem EncodeFields.plVerify : EncodeFields.Statement .plVerify := by unfold EncodeFields.Statement; decide
theorem EncodeFields.b2Init : EncodeFields.Statement .b2Init := by unfold EncodeFields.Statement; decide
theorem EncodeFields.b2Update : EncodeFields.Statement .b2Update := by unfold EncodeFields.Statement; decide
theorem EncodeFields.b2Final : EncodeFields.Statement .b2Final := by unfold EncodeFields.Statement; decide
theorem EncodeFields.xsInit : EncodeFields.Statement .xsInit := by unfold EncodeFields.Statement; decide
theorem EncodeFields.xsXor : EncodeFields.Statement .xsXor := by unfold EncodeFields.Statement; decide

end Sys2Proof.Laws
end

