-- ==== Sys2Proof/Tests/Slice0.lean ====
section
/-! SUPPORT. The model's own tests: decoding of words written out from the spec's encodings, the checks of WellFormed, the
worked examples and vectors the spec prints (95_test_vectors.md and the Example paragraphs of the command rules), one step
each, and a witness for the hypotheses of every statement that has some. -/

namespace Sys2Proof.Tests

open Sys2Proof Sys2Proof.Machine

/-! ## Decoding: bits 31:16 zero, then `ARG`, then `OPC` (30_encoding.md R101, R103) -/

theorem test_decode_nop : decode 0b00000000_00000000_00000000_00000000#32 = .ok .nop := by decide
theorem test_decode_zeroize : decode 0b00000000_00000000_00010011_00000001#32 = .ok (.zeroize 0x13#8) := by decide
theorem test_decode_ccInit : decode 0b00000000_00000000_00000000_00010000#32 = .ok .ccInit := by decide
theorem test_decode_ccXor : decode 0b00000000_00000000_00000000_00010001#32 = .ok .ccXor := by decide
theorem test_decode_ccPolykey : decode 0b00000000_00000000_00000001_00010011#32 = .ok (.ccPolykey 0x01#8) := by decide
theorem test_decode_plInit : decode 0b00000000_00000000_00000000_00100000#32 = .ok .plInit := by decide
theorem test_decode_plUpdate : decode 0b00000000_00000000_00000000_00100001#32 = .ok .plUpdate := by decide
theorem test_decode_plFinish : decode 0b00000000_00000000_00000000_00100010#32 = .ok .plFinish := by decide
theorem test_decode_plVerify : decode 0b00000000_00000000_00000000_00100011#32 = .ok .plVerify := by decide
theorem test_decode_b2Init : decode 0b00000000_00000000_00000000_00110000#32 = .ok .b2Init := by decide
theorem test_decode_b2Update : decode 0b00000000_00000000_00000000_00110001#32 = .ok .b2Update := by decide
theorem test_decode_b2Final : decode 0b00000000_00000000_00000000_00110010#32 = .ok .b2Final := by decide
theorem test_decode_xsInit : decode 0b00000000_00000000_00000000_01000000#32 = .ok .xsInit := by decide
theorem test_decode_xsXor : decode 0b00000000_00000000_00000000_01000001#32 = .ok .xsXor := by decide

/-- Opcode 0x12 is deliberately unassigned (R103). -/
theorem test_decode_unassigned : decode 0x00000012#32 = .error (.unassignedOpcode 0x12#8) := by decide
theorem test_decode_reserved : decode 0x80000000#32 = .error (.reservedBits 0x8000#16) := by decide
theorem test_decode_unused_arg : decode 0x00000111#32 = .error (.unusedArgBits 0x11#8 0x01#8) := by decide
theorem test_decode_table_word : decodeTableWord 32 0x1F01 = some (.zeroize 0x1F#8) := by decide

/-! ## WellFormed: an ill-formed term for each check -/

theorem test_zeroize_arg_refused : (Instr.zeroize 0x20#8).wellFormed = false := by decide
theorem test_polykey_arg_refused : (Instr.ccPolykey 0x02#8).wellFormed = false := by decide
theorem test_zeroize_arg_accepted : (Instr.zeroize 0x1F#8).wellFormed = true := by decide

/-! ## Primitives: the worked examples of 40_primitives.md -/

theorem test_rotl32 : rotl32 0x12345678#32 7 = 0x1A2B3C09#32 := by decide
theorem test_rotr64 : rotr64 0x0123456789ABCDEF#64 24 = 0xABCDEF0123456789#64 := by decide
theorem test_le32 : le32 0x65 0x78 0x70 0x61 = 0x61707865#32 := by decide

/-- The example of R139 (V1). -/
theorem test_ccqr :
    (ccqr ((((Vector.replicate 16 0#32).set 0 0x11111111#32).set 1 0x01020304#32).set 2 0x9B8D6F43#32 |>.set 3
      0x01234567#32) 0 1 2 3).toList.take 4 = [0xEA2A92F4#32, 0xCB1CF8CE#32, 0x4581472E#32, 0x5881C4BB#32] := by
  decide +kernel

/-- The second example of R143. -/
theorem test_saqr :
    (saqr ((((Vector.replicate 16 0#32).set 0 0xE7E8C006#32).set 1 0xC4F9417D#32).set 2 0x6479B4B2#32 |>.set 3
      0x68C67137#32) 0 1 2 3).toList.take 4 = [0xE876D72B#32, 0x9361DFD5#32, 0xF1460244#32, 0x948541A3#32] := by
  decide +kernel

/-- The example of R154. -/
theorem test_b2G :
    (b2G ((((Vector.replicate 16 0#64).set 1 0x0404040404040404#64).set 2 0x0808080808080808#64).set 3
      0x0C0C0C0C0C0C0C0C#64) 0 1 2 3 0x1111111111111111#64 0x2222222222222222#64).toList.take 4
      = [0x5C5C5C5C5C5C5C5C#64, 0x8686868686868686#64, 0x6666666666666666#64, 0x4545454545454545#64] := by
  decide +kernel

/-- "Each row is a permutation of 0..15" (R153). -/
theorem test_sigma_rows : ∀ r : Fin 10, b2Sigma[r].toList.Nodup := by decide +kernel

/-- The block of R163's example (V2), its first eight bytes. -/
theorem test_ccBlock :
    (ccBlock #v[0x61707865#32, 0x3320646E#32, 0x79622D32#32, 0x6B206574#32, 0x03020100#32, 0x07060504#32, 0x0B0A0908#32,
      0x0F0E0D0C#32, 0x13121110#32, 0x17161514#32, 0x1B1A1918#32, 0x1F1E1D1C#32, 0x00000001#32, 0x09000000#32,
      0x4A000000#32, 0x00000000#32]).toList.take 8 = [0x10, 0xF1, 0xE7, 0xE4, 0xD1, 0x3B, 0x59, 0x15] := by
  decide +kernel

/-- The subkey of R233's second example (V9 a), its first word. -/
theorem test_hsalsa20 :
    (hsalsa20 #v[0x5B9D5D4A#32, 0xE12DCEA4#32, 0xF43B8E72#32, 0x250F3580#32, 0xC9217EE0#32, 0x339ED147#32,
      0x3C9BF076#32, 0x4217161E#32] 0 0 0 0)[0] = 0x6455271B#32 := by
  decide +kernel

/-- The compression of "abc" (R256, V11), its first word. -/
theorem test_b2Compress :
    (b2Compress (b2Start 64 0) (padBlock [0x61, 0x62, 0x63]) 3#128 true)[0] = 0x0D4D1C983FA580BA#64 := by
  decide +kernel

/-! ## Poly1305: V5 -/

/-- The key of V5. -/
def keyV5 : List Byte :=
  [0x85, 0xD6, 0xBE, 0x78, 0x57, 0x55, 0x6D, 0x33, 0x7F, 0x44, 0x52, 0xFE, 0x42, 0xD5, 0x06, 0xA8,
   0x01, 0x03, 0x80, 0x8A, 0xFB, 0x0D, 0xB2, 0xFD, 0x4A, 0xBF, 0xF6, 0xAF, 0x41, 0x49, 0xF5, 0x1B]

/-- The message of V5, "Cryptographic Forum Research Group". -/
def messageV5 : List Byte :=
  [0x43, 0x72, 0x79, 0x70, 0x74, 0x6F, 0x67, 0x72, 0x61, 0x70, 0x68, 0x69, 0x63, 0x20, 0x46, 0x6F, 0x72, 0x75, 0x6D,
   0x20, 0x52, 0x65, 0x73, 0x65, 0x61, 0x72, 0x63, 0x68, 0x20, 0x47, 0x72, 0x6F, 0x75, 0x70]

theorem test_polyLoad_r : (polyLoad keyV5).r = 0x0806D5400E52447C036D555408BED685#128 := by decide +kernel
theorem test_poly1305 : poly1305 messageV5 keyV5 = 0xA927010CAF8B2BC2C6365130C11D06A8#128 := by decide +kernel
theorem test_poly_block1 :
    polyAcc (polyLoad keyV5).r.toNat 0 messageV5 1 = 0x2C88C77849D64AE9147DDEB88E69C83FC := by decide +kernel

/-- The limbs after block 1 of V5. -/
theorem test_limbBlock :
    limbBlock ⟨0xBED685, 0x3555502, 0x47C036, 0x1003949, 0x806D5⟩ ⟨0, 0, 0, 0, 0⟩ (polyFullBlock messageV5 0)
      = ⟨0x29C83FC, 0x37AE239, 0x2E9147D, 0x2127592, 0x2C88C77⟩ := by decide +kernel

/-- The final reduction of V7: 2^130 − 2 reduces to 3. -/
theorem test_limbTag :
    limbTag ⟨0x3FFFFFE, 0x3FFFFFF, 0x3FFFFFF, 0x3FFFFFF, 0x3FFFFFF⟩ 0 = 3#128 := by decide +kernel

/-! ## One step of each command, on small states -/

/-- A register of the state an outcome holds; 0 for a stop. -/
def after (o : Host.Outcome State Fault Refusal) (r : Reg) : Word :=
  match o with
  | .next s => regRead s r
  | .fault _ => 0
  | .refused _ => 0

/-- A word written to `CMD` right after reset, over changes `f` to the reset state. -/
def cmdStep (w : Nat) (f : State → State) : Host.Outcome State Fault Refusal := step ((f State.reset).withFetchWord 32 w)

/-- A state with a valid ChaCha20 context, gate `g`, `a` keystream bytes left, all of value 0x5A. -/
def ccReady (g : Bool) (a : Nat) (s : State) : State :=
  { s with cc := { s.cc with valid := true, gate := g, blk := Vector.replicate 64 0x5A#8, avail := a } }

/-- A state with a valid XSalsa20 context and `a` keystream bytes left, all of value 0xA5. -/
def xsReady (a : Nat) (s : State) : State :=
  { s with xs := { s.xs with valid := true, blk := Vector.replicate 64 0xA5#8, avail := a } }

/-- A state with a keyed Poly1305 context holding `l` leftover bytes. -/
def plReady (l : Nat) (s : State) : State := { s with pl := { s.pl with valid := true, r := 2, pad := 7, lfill := l } }

/-- A state with a finished tag whose words are all `x`; `XTLEN` = 16. -/
def tagReady (x : Word) (s : State) : State :=
  { s with pl := { s.pl with done := true }, tag := Vector.replicate 4 x, xtlen := 16 }

/-- A state with an initialised BLAKE2b context holding `n` bytes. -/
def b2Ready (n : Nat) (s : State) : State := { s with b2 := { b2Load 64 [] with fill := n } }

/-- R280's example: `NOP` erases the code of a failed `PL_VERIFY`, `STICKY` keeps it. -/
theorem test_nop :
    after (cmdStep 0x00 fun s => { s with code := .eAuth, lastop := 0x23, sticky := 0x04 }) .result = 0x00000000#32 ∧
      after (cmdStep 0x00 fun s => { s with code := .eAuth, lastop := 0x23, sticky := 0x04 }) .sticky = 0x04#32 := by
  decide +kernel

/-- R281: `ZEROIZE CC+PL` clears `STATUS`, leaves `LEN`. -/
theorem test_zeroize :
    after (cmdStep 0x0301 fun s => { plReady 3 (ccReady true 9 s) with len := 5 }) .status = 0#32 ∧
      after (cmdStep 0x0301 fun s => { plReady 3 (ccReady true 9 s) with len := 5 }) .len = 5#32 := by decide +kernel

/-- R160's example: `RESULT` and `CC_CTR`. -/
theorem test_ccInit :
    after (cmdStep 0x10 fun s => { s with klen := 32, nlen := 12, ctr := 1 }) .result = 0x00001000#32 ∧
      after (cmdStep 0x10 fun s => { s with klen := 32, nlen := 12, ctr := 1 }) .ccCtr = 1#32 := by decide +kernel

/-- R160: the key length is checked before the nonce length. -/
theorem test_ccInit_keylen : after (cmdStep 0x10 fun s => { s with klen := 31, nlen := 11 }) .result = 0x00001010#32 := by
  decide +kernel

/-- R161: three bytes of a block buffer are consumed, byte 3 of `BUF` is untouched. -/
theorem test_ccXor :
    after (cmdStep 0x11 fun s => { ccReady false 64 s with len := 3 }) (.buf 0) = 0x005A5A5A#32 ∧
      after (cmdStep 0x11 fun s => { ccReady false 64 s with len := 3 }) .cursor = 61#32 := by decide +kernel

/-- R161, R211: the closed gate is reported before the length. -/
theorem test_ccXor_gated :
    after (cmdStep 0x11 fun s => { ccReady true 64 s with len := 200 }) .result = 0x00001103#32 := by decide +kernel

/-- R210: without a cipher context, `E_STATE`. -/
theorem test_ccPolykey_state : after (cmdStep 0x113 id) .result = 0x00001302#32 := by decide +kernel

/-- R180: the wrong key length. -/
theorem test_plInit_keylen : after (cmdStep 0x20 fun s => { s with klen := 33 }) .result = 0x00002010#32 := by decide +kernel

/-- R180's flags. -/
theorem test_plInit : after (cmdStep 0x20 fun s => { s with klen := 32 }) .status = 0x004#32 := by decide +kernel

/-- R181: fifteen bytes and two make one block and one leftover byte. -/
theorem test_plUpdate : after (cmdStep 0x21 fun s => { plReady 15 s with len := 2 }) .cursor = 0x00010000#32 := by
  decide +kernel

/-- R182: the tag of the empty message is `pad`. -/
theorem test_plFinish :
    after (cmdStep 0x22 (plReady 0)) (.tag 0) = 7#32 ∧ after (cmdStep 0x22 (plReady 0)) .status = 0x008#32 := by
  decide +kernel

/-- R191's mismatch example: `STATUS`, and the tag is gone. -/
theorem test_plVerify_mismatch :
    after (cmdStep 0x23 (tagReady 9)) .status = 0x040#32 ∧ after (cmdStep 0x23 (tagReady 9)) (.tag 0) = 0#32 := by
  decide +kernel

/-- R191's match example: `STATUS`. -/
theorem test_plVerify_match : after (cmdStep 0x23 (tagReady 0)) .status = 0x028#32 := by decide +kernel

/-- R250's example: `STATUS`, `RESULT`. -/
theorem test_b2Init :
    after (cmdStep 0x30 fun s => { s with outlen := 64 }) .status = 0x080#32 ∧
      after (cmdStep 0x30 fun s => { s with outlen := 64 }) .result = 0x00003000#32 := by decide +kernel

/-- R250: the output length is checked before the key length. -/
theorem test_b2Init_outlen : after (cmdStep 0x30 fun s => { s with klen := 65 }) .result = 0x00003012#32 := by decide +kernel

/-- R251's example: three bytes buffered. -/
theorem test_b2Update : after (cmdStep 0x31 fun s => { b2Ready 0 s with len := 3 }) .cursor = 0x03000000#32 := by
  decide +kernel

/-- R252, V11's companion: the digest of the empty message, `786A02F7…` (V13). -/
theorem test_b2Final : after (cmdStep 0x32 (b2Ready 0)) (.digest 0) = 0xF7026A78#32 := by decide +kernel

/-- R230: `RESULT` with a short nonce. -/
theorem test_xsInit_noncelen : after (cmdStep 0x40 fun s => { s with klen := 32, nlen := 12 }) .result = 0x00004011#32 := by
  decide +kernel

/-- R231: two bytes of a block buffer. -/
theorem test_xsXor :
    after (cmdStep 0x41 fun s => { xsReady 5 s with len := 2 }) (.buf 0) = 0x0000A5A5#32 ∧
      after (cmdStep 0x41 fun s => { xsReady 5 s with len := 2 }) .cursor = 0x00000300#32 := by decide +kernel

/-- `ZEROIZE_ALL` encodes to the word R108 gives. -/
theorem test_zeroizeAll_word : zeroizeAll = .write 0x004 4 0x00001F01#32 := by decide

/-! ## Witnesses: states and operands that meet the hypotheses of the statements, at boundary values of their ranges -/

/-- A state with `es` pending. -/
def withEvents (es : List HostEvent) : State := { State.reset with pending := es }

theorem witness_DecodeEncodeRoundTrip :
    (Instr.zeroize 0x1F#8).wellFormed = true ∧ (Instr.ccPolykey 0x01#8).wellFormed = true := by decide

theorem witness_DecodeAcceptsOnlyEncodings : decode 0x00001F01#32 = .ok (.zeroize 0x1F#8) := by decide

theorem witness_OpcodeMapIsTheDecoder :
    (∃ row ∈ opcodeTable, row.selects 0x00001F01#32 = true) ∧ (∀ row ∈ opcodeTable, row.selects 0x00002001#32 = false) := by
  decide

theorem witness_StepRunsDecodedCommand :
    (withEvents [.write 0x004 4 0x11#32]).pending = .write 0x004 4 0x11#32 :: [] ∧ decode 0x11#32 = .ok .ccXor ∧
    (withEvents [.write 0x004 4 0x12#32]).pending = .write 0x004 4 0x12#32 :: [] ∧
    decode 0x12#32 = .error (.unassignedOpcode 0x12#8) := by decide

theorem witness_UnassignedOpcodeIsIllegal :
    (0x12#32).extractLsb' 0 8 ∉ [0x00#8, 0x01#8, 0x10#8, 0x11#8, 0x13#8, 0x20#8, 0x21#8, 0x22#8, 0x23#8, 0x30#8, 0x31#8,
      0x32#8, 0x40#8, 0x41#8] := by decide

theorem witness_ReservedBitsAreIllegal :
    (0x00010000#32).extractLsb' 16 16 ≠ 0#16 ∧ (0x00000110#32).extractLsb' 8 8 ≠ 0#8 ∧
    (0x00002001#32).extractLsb' 13 3 ≠ 0#3 ∧ (0x00000213#32).extractLsb' 9 7 ≠ 0#7 := by decide

theorem witness_MisdirectedAccessIsBusError :
    (withEvents [.read 0x03C 4]).pending = [HostEvent.read 0x03C 4] ∧
    (withEvents [.write 0x004 2 0#32]).pending = [HostEvent.write 0x004 2 0#32] ∧
    (withEvents [.read 0x001 4]).pending = [HostEvent.read 0x001 4] ∧
    (withEvents [.read 0x180 4]).pending = [HostEvent.read 0x180 4] ∧
    (withEvents [.read 0x200 4]).pending = [HostEvent.read 0x200 4] := by decide

theorem witness_ReadReturnsRegister :
    (withEvents [.read 0x17C 4]).pending = .read (regOffset (.buf 31)) 4 :: [] ∧ (3 : Nat) < 4 := by decide

theorem witness_WriteStoresRegister :
    Reg.buf 31 ≠ .cmd ∧ (withEvents [.write 0x17C 4 5#32]).pending = .write (regOffset (.buf 31)) 4 5#32 :: [] := by decide

theorem witness_WindowLayout :
    regAt 0x038 = some .cursor ∧ regAt 0x040 = some (.key 0) ∧ regAt 0x03C = none ∧ regAt 0x17C = some (.buf 31) ∧
    regAt 0x180 = none := by decide

theorem witness_CursorRegisterFields :
    ∃ s : State, s.cc.avail = 64 ∧ s.xs.avail = 64 ∧ s.pl.lfill = 15 ∧ s.b2.fill = 128 :=
  ⟨plReady 15 (b2Ready 128 (ccReady true 64 (xsReady 64 State.reset))), by decide⟩

/-- A state with a gated, linked ChaCha20 context and a verified tag, and one transaction pending. -/
def aeadReady : State :=
  { withEvents [.write 0x014 4 128#32] with
    cc := { CC.zero with valid := true, gate := true, avail := 64 }
    pl := { PL.zero with done := true, link := true }
    tag := Vector.replicate 4 9
    auth := { ok := true, fail := false } }

/-- It meets the invariant: the premise of `StepKeepsInvariant` and of `CounterRegistersAreLive` (its `xs` is invalid). -/
theorem witness_aeadReady_Inv : aeadReady.Inv where
  cc := ⟨by decide, by decide⟩
  pl := ⟨by decide, by decide, by decide, by decide, by decide⟩
  b2 := ⟨by decide, by decide, by decide, by decide, by decide, by decide, by decide⟩
  xs := ⟨by decide, by decide⟩
  auth := by decide
  gate_valid := by decide
  link_valid := by decide
  tag_zero := by decide
  digest_zero := by decide

theorem witness_StepKeepsInvariant : aeadReady.Inv ∧ ∃ t, step aeadReady = .next t ∧ t.len = 128#8 :=
  ⟨witness_aeadReady_Inv, _, rfl, by decide⟩

theorem witness_CounterRegistersAreLive :
    aeadReady.Inv ∧ aeadReady.xs.valid = false ∧ (withEvents []).cc.valid = false :=
  ⟨witness_aeadReady_Inv, by decide, by decide⟩

theorem witness_StickyChangesOnlyByItsEvents :
    (∃ t, step { withEvents [.write 0x010 4 0x08#32] with sticky := 0x08 } = .next t ∧
      (0x08#6).getLsbD 3 = true ∧ t.sticky.getLsbD 3 = false) ∧
    (withEvents []).sticky.getLsbD 3 = false ∧
    (∃ t, step (withEvents [.read 0x1FC 4]) = .next t ∧ t.sticky.getLsbD 3 = true) ∧
    (withEvents []).sticky.getLsbD 0 = false ∧
    (∃ t, step (withEvents [.write 0x004 4 0x11#32]) = .next t ∧ t.sticky.getLsbD 0 = true) ∧
    (ccReady false 64 State.reset).cc.avail ≤ 64 ∧ (xsReady 64 State.reset).xs.avail ≤ 64 :=
  ⟨⟨_, rfl, by decide, by decide⟩, by decide, ⟨_, rfl, by decide⟩, by decide, ⟨_, rfl, by decide⟩, by decide, by decide⟩

theorem witness_CommandChecksInOrder :
    (∃ t, exec .ccXor (ccReady true 0 State.reset) = .next t ∧ t.code = .eGated) ∧
    (∃ t, exec .b2Init State.reset = .next t ∧ t.code = .eOutlen) ∧
    zeroizeArgLegal 0x1F#8 = true ∧ polykeyArgLegal 0x01#8 = true :=
  ⟨⟨_, rfl, rfl⟩, ⟨_, rfl, rfl⟩, by decide, by decide⟩

theorem witness_ErrorsLeaveStateAsStated :
    (∃ t, exec .ccXor State.reset = .next t ∧ t.code ≠ .ok) ∧ (∃ t, exec (.ccPolykey 1) State.reset = .next t ∧ t.code ≠ .ok) ∧
    (decode 0x12#32 = .error (.unassignedOpcode 0x12#8) ∧ ∃ t, runCommand 0x12#32 State.reset = .next t ∧ t.code ≠ .ok) ∧
    (∃ t, exec .plVerify State.reset = .next t ∧ t.code = .eState) ∧
    (∃ t, exec .plVerify { tagReady 0 State.reset with xtlen := 15 } = .next t ∧ t.code = .eTaglen) ∧
    (∃ t, exec .plVerify (tagReady 9 State.reset) = .next t ∧ t.code = .eAuth) ∧
    (∃ t, exec .ccInit State.reset = .next t ∧ t.code ≠ .ok) ∧ (∃ t, exec .plInit State.reset = .next t ∧ t.code ≠ .ok) ∧
    (∃ t, exec .b2Init State.reset = .next t ∧ t.code ≠ .ok) ∧ (∃ t, exec .xsInit State.reset = .next t ∧ t.code ≠ .ok) :=
  ⟨⟨_, rfl, by decide⟩, ⟨_, rfl, by decide⟩, ⟨by decide, _, rfl, by decide⟩, ⟨_, rfl, by decide⟩, ⟨_, rfl, by decide⟩,
    ⟨_, rfl, by decide⟩, ⟨_, rfl, by decide⟩, ⟨_, rfl, by decide⟩, ⟨_, rfl, by decide⟩, ⟨_, rfl, by decide⟩⟩

theorem witness_KeyIsConsumedByKeyCommands :
    (∃ t, exec .ccInit State.reset = .next t) ∧ (∃ t, exec .nop State.reset = .next t) ∧ (∀ arg, Instr.nop ≠ .zeroize arg) :=
  ⟨⟨_, rfl⟩, ⟨_, rfl⟩, fun _ h => nomatch h⟩

theorem witness_CommandWritesOnlyItsState :
    ((∃ t, exec (.zeroize 0x00#8) (tagReady 9 State.reset) = .next t) ∧ ∀ k : Fin 5, (0x00#8).getLsbD k = false) ∧
    ((∃ t, exec .xsXor { xsReady 1 State.reset with len := 1 } = .next t) ∧ ∀ arg, Instr.xsXor ≠ .zeroize arg) ∧
    ((∃ t, exec .plVerify (tagReady 0 State.reset) = .next t ∧ t.code = .ok) ∧
      (tagReady 0 State.reset).pl.link = false) ∧
    (∃ t, exec .plVerify State.reset = .next t ∧ t.code ≠ .ok ∧ t.code ≠ .eAuth) :=
  ⟨⟨⟨_, rfl⟩, by decide⟩, ⟨⟨_, rfl⟩, fun _ h => nomatch h⟩, ⟨⟨_, rfl, by decide⟩, by decide⟩, _, rfl, by decide, by decide⟩

theorem witness_ZeroizeDestroysSelected :
    (0x1F#8).extractLsb' 5 3 = 0#3 ∧ (0x00#8).extractLsb' 5 3 = 0#3 := by decide

theorem witness_CcInitBuildsContext :
    (∃ s : State, s.klen.toNat = 32 ∧ s.nlen.toNat = 12) ∧ (∃ s : State, s.klen.toNat ≠ 32) ∧
    (∃ s : State, s.klen.toNat = 32 ∧ s.nlen.toNat ≠ 12) :=
  ⟨⟨{ State.reset with klen := 32, nlen := 12 }, by decide⟩, ⟨{ State.reset with klen := 31 }, by decide⟩,
    ⟨{ State.reset with klen := 32, nlen := 13 }, by decide⟩⟩

theorem witness_CcXorProducesKeystream :
    (∃ s : State, s.cc.valid = true ∧ s.cc.gate = false ∧ s.len.toNat = 128 ∧ s.cc.avail = 64) ∧
    (∃ s : State, s.cc.valid = false) ∧ (∃ s : State, s.cc.valid = true ∧ s.cc.gate = true) ∧
    (∃ s : State, s.cc.valid = true ∧ s.cc.gate = false ∧ s.len.toNat = 129) :=
  ⟨⟨{ ccReady false 64 State.reset with len := 128 }, by decide⟩, ⟨State.reset, rfl⟩, ⟨ccReady true 0 State.reset, by decide⟩,
    ⟨{ ccReady false 0 State.reset with len := 129 }, by decide⟩⟩

theorem witness_CcStreamOfAnyChunking :
    (ccReady false 64 State.reset).cc.valid = true ∧ (ccReady false 64 State.reset).cc.gate = false ∧
    (ccReady false 64 State.reset).cc.avail ≤ 64 ∧ (List.replicate 128 0x11#8).length ≤ 128 ∧
    ∀ d ∈ [[0x22#8], [], List.replicate 128 0x33#8], d.length ≤ 128 := by decide +kernel

theorem witness_CcXorInvolution :
    ∃ t, exec .ccXor { ccReady false 64 State.reset with len := 1 } = .next t ∧ t.code = .ok := ⟨_, rfl, rfl⟩

theorem witness_MixingTouchesFourWords : (15 : Fin 16) ∉ [(0 : Fin 16), 4, 8, 12] := by decide

theorem witness_DisjointMixingCommutes : ∀ k ∈ [(0 : Fin 16), 4, 8, 12], k ∉ [(3 : Fin 16), 7, 11, 15] := by decide

theorem witness_PolykeyLoadsOneTimeKey :
    (0x01#8).extractLsb' 1 7 = 0#7 ∧ (ccReady true 0 State.reset).cc.valid = true ∧ State.reset.cc.valid = false := by decide

theorem witness_PolykeyPositionsKeystream :
    (0x00#8).extractLsb' 1 7 = 0#7 ∧ ({ State.reset with klen := 32, nlen := 12 } : State).klen.toNat = 32 ∧
    ({ State.reset with klen := 32, nlen := 12 } : State).nlen.toNat = 12 := by decide

theorem witness_GateChangesOnlyByItsWriters :
    ∃ t, step (ccReady true 0 (withEvents [.write 0x004 4 0x00000101#32])) = .next t ∧ t.cc.gate = false := ⟨_, rfl, by decide⟩

theorem witness_LinkChangesOnlyByItsWriters :
    ∃ t, step { withEvents [.write 0x004 4 0x00000020#32] with pl := { PL.zero with link := true } } = .next t ∧
      t.pl.link = false := ⟨_, rfl, by decide⟩

theorem witness_GatedContextStaysPut :
    (ccReady true 0 (withEvents [.write 0x004 4 0x11#32])).cc.valid = true ∧
    (ccReady true 0 (withEvents [.write 0x004 4 0x11#32])).cc.gate = true ∧
    touchesGatedContext (.write 0x004 4 0x11#32) = false ∧
    ∃ t, Host.Core.run Sys2Proof.core 1 (ccReady true 0 (withEvents [.write 0x004 4 0x11#32])) = .next t :=
  ⟨by decide, by decide, by decide, ⟨_, rfl⟩⟩

theorem witness_PlInitLoadsKey :
    (∃ s : State, s.klen.toNat = 32) ∧ (∃ s : State, s.klen.toNat ≠ 32) :=
  ⟨⟨{ State.reset with klen := 32 }, by decide⟩, ⟨State.reset, by decide⟩⟩

theorem witness_PlUpdateAbsorbsBytes :
    (∃ s : State, s.pl.valid = true ∧ s.len.toNat = 128 ∧ s.pl.lfill = 15) ∧ (∃ s : State, s.pl.valid = false) ∧
    (∃ s : State, s.pl.valid = true ∧ s.len.toNat = 129) :=
  ⟨⟨{ plReady 15 State.reset with len := 128 }, by decide⟩, ⟨State.reset, rfl⟩,
    ⟨{ plReady 0 State.reset with len := 129 }, by decide⟩⟩

theorem witness_PlFinishWritesTag :
    (∃ s : State, s.pl.valid = true ∧ s.pl.lfill = 15) ∧ (∃ s : State, s.pl.valid = true ∧ s.pl.lfill = 0) ∧
    (∃ s : State, s.pl.valid = false) :=
  ⟨⟨plReady 15 State.reset, by decide⟩, ⟨plReady 0 State.reset, by decide⟩, ⟨State.reset, rfl⟩⟩

theorem witness_Poly1305OfAnyChunking :
    ({ State.reset with klen := 32 } : State).klen.toNat = 32 ∧
    ∀ c ∈ [[], [0x01#8], List.replicate 128 0x02#8], c.length ≤ 128 := by decide +kernel

theorem witness_PlVerifyDecides :
    (∃ s : State, s.pl.done = true ∧ s.xtlen.toNat = 16 ∧ s.tag = s.xtag) ∧
    (∃ s : State, s.pl.done = true ∧ s.xtlen.toNat = 16 ∧ s.tag ≠ s.xtag) ∧ (∃ s : State, s.pl.done = false) ∧
    (∃ s : State, s.pl.done = true ∧ s.xtlen.toNat ≠ 16) :=
  ⟨⟨tagReady 0 State.reset, by decide⟩, ⟨tagReady 9 State.reset, by decide⟩, ⟨State.reset, rfl⟩,
    ⟨{ tagReady 0 State.reset with xtlen := 17 }, by decide⟩⟩

/-- The largest limbs the bounds allow. -/
def limbsMax : Limbs := ⟨0x3FFFFFF, 0x400003F, 0x3FFFFFF, 0x3FFFFFF, 0x3FFFFFF⟩

theorem witness_LimbBlockRefinesBlockStep :
    limbsMax.l0 < 2 ^ 26 ∧ limbsMax.l1 < 2 ^ 26 + 2 ^ 6 ∧ limbsMax.l2 < 2 ^ 26 ∧ limbsMax.l3 < 2 ^ 26 ∧ limbsMax.l4 < 2 ^ 26 ∧
    2 ^ 129 - 1 < 2 ^ 129 ∧ (clampLimbs keyV5).l0 ≤ 0x3FFFFFF ∧ (clampLimbs keyV5).l1 ≤ 0x3FFFF03 ∧
    (clampLimbs keyV5).l2 ≤ 0x3FFC0FF ∧ (clampLimbs keyV5).l3 ≤ 0x3F03FFF ∧ (clampLimbs keyV5).l4 ≤ 0x00FFFFF := by
  decide +kernel

theorem witness_LimbTagIsPolyTag :
    limbsMax.l0 < 2 ^ 26 ∧ limbsMax.l1 < 2 ^ 26 + 2 ^ 6 ∧ limbsMax.l2 < 2 ^ 26 ∧ limbsMax.l3 < 2 ^ 26 ∧
    limbsMax.l4 < 2 ^ 26 := by decide

theorem witness_ClampLimbsAreLimbsOfClamp : 16 ≤ keyV5.length := by decide

theorem witness_B2InitBuildsHasher :
    (∃ s : State, s.outlen.toNat = 64 ∧ s.klen.toNat = 64) ∧ (∃ s : State, s.outlen.toNat = 1 ∧ s.klen.toNat = 0) ∧
    (∃ s : State, s.outlen.toNat = 0) ∧ (∃ s : State, s.outlen.toNat = 65) ∧
    (∃ s : State, s.outlen.toNat = 1 ∧ s.klen.toNat = 65) :=
  ⟨⟨{ State.reset with outlen := 64, klen := 64 }, by decide⟩, ⟨{ State.reset with outlen := 1 }, by decide⟩,
    ⟨State.reset, by decide⟩, ⟨{ State.reset with outlen := 65 }, by decide⟩,
    ⟨{ State.reset with outlen := 1, klen := 65 }, by decide⟩⟩

theorem witness_B2UpdateAbsorbsBytes :
    (∃ s : State, s.b2.valid = true ∧ s.b2.fill + s.len.toNat = 128) ∧
    (∃ s : State, s.b2.valid = true ∧ s.len.toNat = 128 ∧ s.b2.fill = 128) ∧
    (∃ s : State, s.b2.valid = true ∧ s.len.toNat = 1 ∧ s.b2.fill = 128) ∧ (∃ s : State, s.b2.valid = false) ∧
    (∃ s : State, s.b2.valid = true ∧ s.len.toNat = 129) :=
  ⟨⟨{ b2Ready 100 State.reset with len := 28 }, by decide⟩, ⟨{ b2Ready 128 State.reset with len := 128 }, by decide⟩,
    ⟨{ b2Ready 128 State.reset with len := 1 }, by decide⟩, ⟨State.reset, rfl⟩,
    ⟨{ b2Ready 0 State.reset with len := 129 }, by decide⟩⟩

theorem witness_B2FinalWritesDigest :
    (∃ s : State, s.b2.valid = true ∧ s.b2.fill = 128 ∧ s.b2.outlen = 64) ∧ (∃ s : State, s.b2.valid = false) :=
  ⟨⟨b2Ready 128 State.reset, by decide⟩, ⟨State.reset, rfl⟩⟩

theorem witness_Blake2bOfAnyChunking :
    (∃ s : State, s.outlen.toNat = 64 ∧ s.klen.toNat = 64) ∧ (∃ s : State, s.outlen.toNat = 1 ∧ s.klen.toNat = 0) ∧
    ∀ c ∈ [[], [0x01#8], List.replicate 128 0x02#8], c.length ≤ 128 :=
  ⟨⟨{ State.reset with outlen := 64, klen := 64 }, by decide⟩, ⟨{ State.reset with outlen := 1 }, by decide⟩, by decide +kernel⟩

theorem witness_HalvesComputeWords : (0 : Nat) < 31 ∧ (31 : Nat) < 32 ∧ (0 : Nat) < 1 := by decide

theorem witness_XsInitDerivesSubkey :
    (∃ s : State, s.klen.toNat = 32 ∧ s.nlen.toNat = 24) ∧ (∃ s : State, s.klen.toNat ≠ 32) ∧
    (∃ s : State, s.klen.toNat = 32 ∧ s.nlen.toNat ≠ 24) :=
  ⟨⟨{ State.reset with klen := 32, nlen := 24 }, by decide⟩, ⟨State.reset, by decide⟩,
    ⟨{ State.reset with klen := 32, nlen := 12 }, by decide⟩⟩

theorem witness_XsXorProducesKeystream :
    (∃ s : State, s.xs.valid = true ∧ s.len.toNat = 128 ∧ s.xs.avail = 64) ∧ (∃ s : State, s.xs.valid = false) ∧
    (∃ s : State, s.xs.valid = true ∧ s.len.toNat = 129) :=
  ⟨⟨{ xsReady 64 State.reset with len := 128 }, by decide⟩, ⟨State.reset, rfl⟩,
    ⟨{ xsReady 0 State.reset with len := 129 }, by decide⟩⟩

theorem witness_XsStreamOfAnyChunking :
    (xsReady 64 State.reset).xs.valid = true ∧ (xsReady 64 State.reset).xs.avail ≤ 64 ∧
    (List.replicate 128 0x11#8).length ≤ 128 ∧ ∀ d ∈ [[0x22#8], []], d.length ≤ 128 := by decide +kernel

theorem witness_XsXorInvolution :
    ∃ t, exec .xsXor { xsReady 64 State.reset with len := 1 } = .next t ∧ t.code = .ok := ⟨_, rfl, rfl⟩

theorem witness_ResetEventResets : (withEvents [.reset]).pending = .reset :: [] := by decide

theorem witness_ReadsRevealNoSecrets :
    (withEvents [.read 0x02C 4]).pending = .read 0x02C 4 :: [] ∧
    (∃ t, step (withEvents [.read 0x02C 4]) = .next t) ∧
    (∃ u, step { withEvents [.read 0x02C 4] with key := Vector.replicate 16 7 } = .next u) ∧
    ((Vector.replicate 16 0xFF#32).set 12 0)[12] = State.reset.cc.st[12] ∧
    (((Vector.replicate 16 0xFF#32).set 8 0).set 9 0)[8] = State.reset.xs.st[8] ∧
    (((Vector.replicate 16 0xFF#32).set 8 0).set 9 0)[9] = State.reset.xs.st[9] :=
  ⟨by decide, ⟨_, rfl⟩, ⟨_, rfl⟩, by decide, by decide, by decide⟩

theorem witness_RotationsMoveBits : 1 ≤ 31 ∧ (31 : Nat) ≤ 31 ∧ (63 : Nat) ≤ 63 ∧ (31 : Nat) < 32 ∧ (63 : Nat) < 64 := by decide

end Sys2Proof.Tests
end

section
/-! Scope (00_scope.md R9, R10): every command ends by `complete`, so every transaction, every step and every run has a
next state; and the step that carries a write to `CMD` is the command it decodes to. -/

namespace Sys2Proof.Proofs

open Sys2Proof.Machine

/-! ### Every command completes (60_exceptions.md R290) -/

/-- An outcome that is `complete` for the opcode `opc`: a next state, with some code over some state. -/
def Completes (opc : Byte) (o : Host.Outcome State Fault Refusal) : Prop :=
  ∃ c s, o = .next (complete opc c s)

theorem completes_endWith (opc : Byte) (c : Code) (s : State) : Completes opc (endWith opc c s) := ⟨c, s, rfl⟩

/-- A check of R295: the meaning completes if it does on both sides of the check. -/
theorem completes_ite {opc : Byte} {p : Prop} [Decidable p] {a b : Host.Outcome State Fault Refusal}
    (ha : Completes opc a) (hb : Completes opc b) : Completes opc (if p then a else b) := by
  by_cases h : p
  · rwa [if_pos h]
  · rwa [if_neg h]

theorem execNop_completes (s : State) : Completes 0x00#8 (execNop s) := completes_endWith ..

theorem execZeroize_completes (arg : Byte) (s : State) : Completes 0x01#8 (execZeroize arg s) :=
  completes_ite (completes_endWith ..) (completes_endWith ..)

theorem execCcInit_completes (s : State) : Completes 0x10#8 (execCcInit s) :=
  completes_ite (completes_endWith ..) (completes_ite (completes_endWith ..) (completes_endWith ..))

theorem execCcXor_completes (s : State) : Completes 0x11#8 (execCcXor s) :=
  completes_ite (completes_endWith ..)
    (completes_ite (completes_endWith ..) (completes_ite (completes_endWith ..) (completes_endWith ..)))

theorem execCcPolykey_completes (arg : Byte) (s : State) : Completes 0x13#8 (execCcPolykey arg s) :=
  completes_ite (completes_endWith ..) (completes_ite (completes_endWith ..) (completes_endWith ..))

theorem execPlInit_completes (s : State) : Completes 0x20#8 (execPlInit s) :=
  completes_ite (completes_endWith ..) (completes_endWith ..)

theorem execPlUpdate_completes (s : State) : Completes 0x21#8 (execPlUpdate s) :=
  completes_ite (completes_endWith ..) (completes_ite (completes_endWith ..) (completes_endWith ..))

theorem execPlFinish_completes (s : State) : Completes 0x22#8 (execPlFinish s) :=
  completes_ite (completes_endWith ..) (completes_endWith ..)

theorem execPlVerify_completes (s : State) : Completes 0x23#8 (execPlVerify s) :=
  completes_ite (completes_endWith ..)
    (completes_ite (completes_endWith ..) (completes_ite (completes_endWith ..) (completes_endWith ..)))

theorem execB2Init_completes (s : State) : Completes 0x30#8 (execB2Init s) :=
  completes_ite (completes_endWith ..) (completes_ite (completes_endWith ..) (completes_endWith ..))

theorem execB2Update_completes (s : State) : Completes 0x31#8 (execB2Update s) :=
  completes_ite (completes_endWith ..) (completes_ite (completes_endWith ..) (completes_endWith ..))

theorem execB2Final_completes (s : State) : Completes 0x32#8 (execB2Final s) :=
  completes_ite (completes_endWith ..) (completes_endWith ..)

theorem execXsInit_completes (s : State) : Completes 0x40#8 (execXsInit s) :=
  completes_ite (completes_endWith ..) (completes_ite (completes_endWith ..) (completes_endWith ..))

theorem execXsXor_completes (s : State) : Completes 0x41#8 (execXsXor s) :=
  completes_ite (completes_endWith ..) (completes_ite (completes_endWith ..) (completes_endWith ..))

/-- Every command, from every state, ends by `complete` for its own opcode. -/
theorem exec_completes (i : Instr) (s : State) : Completes (opcodeOf i) (exec i s) := by
  cases i with
  | nop => exact execNop_completes s
  | zeroize arg => exact execZeroize_completes arg s
  | ccInit => exact execCcInit_completes s
  | ccXor => exact execCcXor_completes s
  | ccPolykey arg => exact execCcPolykey_completes arg s
  | plInit => exact execPlInit_completes s
  | plUpdate => exact execPlUpdate_completes s
  | plFinish => exact execPlFinish_completes s
  | plVerify => exact execPlVerify_completes s
  | b2Init => exact execB2Init_completes s
  | b2Update => exact execB2Update_completes s
  | b2Final => exact execB2Final_completes s
  | xsInit => exact execXsInit_completes s
  | xsXor => exact execXsXor_completes s

/-! ### Every step has a next state (R9, R299) -/

/-- A command word completes whether the decoder accepts it or not (30_encoding.md R106). -/
theorem runCommand_completes (w : Word) (s : State) : ∃ opc, Completes opc (runCommand w s) := by
  obtain ⟨i, -, hrun⟩ | ⟨e, -, hrun⟩ := runCommand_cases w s
  · exact ⟨opcodeOf i, hrun ▸ exec_completes i s⟩
  · exact ⟨fieldOpc w, .eIllcmd, s, hrun⟩

theorem memWrite_next (off size : Nat) (v : Word) (s : State) : ∃ t, memWrite off size v s = .next t := by
  obtain ⟨-, hw⟩ | ⟨-, hw⟩ | ⟨r, -, -, hw⟩ := memWrite_cases off size v s
  · exact ⟨_, hw⟩
  · obtain ⟨opc, c, t, hrun⟩ := runCommand_completes v (respond .written s)
    exact ⟨_, hw.trans hrun⟩
  · exact ⟨_, hw⟩

theorem transact_next (e : HostEvent) (s : State) : ∃ t, transact e s = .next t := by
  cases e with
  | read off size => exact ⟨_, rfl⟩
  | write off size v => exact memWrite_next off size v s
  | reset => exact ⟨_, rfl⟩

theorem step_next (s : State) : ∃ t, step s = .next t := by
  obtain ⟨-, hstep⟩ | ⟨e, rest, -, hstep⟩ := step_cases s
  · exact ⟨s, hstep⟩
  · obtain ⟨t, ht⟩ := transact_next e (takeEvent rest s)
    exact ⟨t, hstep.trans ht⟩

/-- A run whose first step answers `t` goes on from `t`. -/
theorem run_succ_of_step {s t : State} (h : step s = .next t) (n : Nat) :
    Host.Core.run Sys2Proof.core (n + 1) s = Host.Core.run Sys2Proof.core n t := by
  have hcore : Sys2Proof.core.step s = .next t := h
  simp only [Host.Core.run, hcore]

/-! ### The step of a write to `CMD` (R9, R22, R100) -/

theorem accessTarget_cmd : accessTarget 0x004 4 = some .cmd := rfl

theorem runCommand_of_decode_ok {w : Word} {i : Instr} (h : decode w = .ok i) (s : State) :
    runCommand w s = exec i s := by rw [runCommand, h]

/-- A word the decoder rejects completes `E_ILLCMD`, which sets `STICKY.USEERR` (30_encoding.md R104, R105). -/
theorem runCommand_of_decode_error {w : Word} {e : Reject} (h : decode w = .error e) (s : State) :
    runCommand w s = .next (complete (fieldOpc w) .eIllcmd s) := by rw [runCommand, h]; rfl

/-- The write reaches `CMD`, and the command runs in the state that has it answered and no longer pending. -/
theorem step_of_cmdWrite {s : State} {w : Word} {rest : List HostEvent}
    (h : s.pending = .write 0x004 4 w :: rest) :
    step s = runCommand w { s with pending := rest, response := .written } := by
  have hstep : step s = memWrite 0x004 4 w (takeEvent rest s) := by rw [step, h]; rfl
  rw [hstep, memWrite, accessTarget_cmd]
  rfl

/-! ### The obligations -/

/-- Settles O56, by induction on the number of steps: each has a next state, as every command completes. -/
theorem noRunEverStops : Obligations.NoRunEverStops := by
  unfold Obligations.NoRunEverStops
  intro n
  induction n with
  | zero => exact fun s => ⟨s, rfl⟩
  | succ n ih =>
    intro s
    obtain ⟨t, hstep⟩ := step_next s
    obtain ⟨u, hrun⟩ := ih t
    exact ⟨u, (run_succ_of_step hstep n).trans hrun⟩

/-- Settles O5: the step is the command word's, and the word is decoded or illegal. -/
theorem stepRunsDecodedCommand : Obligations.StepRunsDecodedCommand := by
  unfold Obligations.StepRunsDecodedCommand
  intro s w rest hpending
  have hstep := step_of_cmdWrite hpending
  refine ⟨hstep, fun i hok => ?_, fun e herr => ?_⟩
  · exact hstep.trans (runCommand_of_decode_ok hok _)
  · exact hstep.trans (runCommand_of_decode_error herr _)

end Sys2Proof.Proofs
end

section
/-! `STICKY`, `KEY`, the live words and the bus error (10_state.md R24, R25, R32 to R35, R42, R51): which register an
offset reaches, how far a stream XOR takes its block counter, what a command leaves in `STICKY` and `KEY`, and what one
step can do to `STICKY`. -/

namespace Sys2Proof.Proofs

open Sys2Proof.Machine

/-! ### Which register an offset reaches (10_state.md section 2, 20_memory.md R71) -/

/-- The register that was found, if any, is the one the table has at `off`. -/
def FoundAt (off : Nat) (o : Option Reg) : Prop := ∀ r, o = some r → regOffset r = off

theorem foundAt_none {off : Nat} : FoundAt off none := fun _ h => nomatch h

theorem foundAt_some {off : Nat} {r : Reg} (h : regOffset r = off) : FoundAt off (some r) := by
  intro r' hr
  cases hr
  exact h

theorem foundAt_ite {off : Nat} {p : Prop} [Decidable p] {a b : Option Reg} (ha : p → FoundAt off a)
    (hb : ¬p → FoundAt off b) : FoundAt off (if p then a else b) := by
  by_cases h : p
  · rw [if_pos h]; exact ha h
  · rw [if_neg h]; exact hb h

theorem foundAt_dite {off : Nat} {p : Prop} [Decidable p] {a : p → Option Reg} {b : Option Reg}
    (ha : ∀ h, FoundAt off (a h)) (hb : FoundAt off b) : FoundAt off (if h : p then a h else b) := by
  by_cases h : p
  · rw [dif_pos h]; exact ha h
  · rwa [dif_neg h]

/-- The 15 registers that stand alone, then the six arrays, whose word is found by division, exact as
`off` is aligned. -/
theorem regAt_foundAt (off : Nat) : FoundAt off (regAt off) := by
  unfold regAt
  refine foundAt_ite (fun _ => foundAt_none) fun haligned => ?_
  iterate 15 refine foundAt_ite (fun h => foundAt_some h.symm) fun _ => ?_
  iterate 6 refine foundAt_dite (fun h => foundAt_some (by simp only [regOffset]; omega)) ?_
  exact foundAt_none

theorem regOffset_of_accessTarget {off size : Nat} {r : Reg} (h : accessTarget off size = some r) :
    off = regOffset r ∧ size = 4 := by
  obtain ⟨hsize, hreg⟩ := (accessTarget_eq_some off size r).1 h
  exact ⟨(regAt_foundAt off r hreg).symm, hsize⟩

/-- The accesses of R80 reach no register: no register of the table stands at such an offset. -/
theorem accessTarget_of_misdirected {off size : Nat}
    (h : size ≠ 4 ∨ off % 4 ≠ 0 ∨ off = 0x03C ∨ off = 0x098 ∨ off = 0x09C ∨ 0x180 ≤ off) :
    accessTarget off size = none := by
  rw [Option.eq_none_iff_forall_ne_some]
  intro r hr
  obtain ⟨hoff, hsize⟩ := regOffset_of_accessTarget hr
  cases r <;> simp only [regOffset] at hoff <;> omega

theorem transact_read_of_noTarget {off size : Nat} (h : accessTarget off size = none) (s : State) :
    transact (.read off size) s = .next (raiseBusError off s) := by
  simp only [transact, memRead, h]

theorem transact_write_of_noTarget {off size : Nat} (h : accessTarget off size = none) (v : Word) (s : State) :
    transact (.write off size v) s = .next (raiseBusError off s) := by
  simp only [transact, memWrite, h]

theorem step_of_pending {s : State} {e : HostEvent} {rest : List HostEvent} (h : s.pending = e :: rest) :
    step s = transact e (takeEvent rest s) := by rw [step, h]

/-! ### The live words `STATUS` and `CURSOR` (R24, R34) -/

theorem cursorWord_ccAvail (s : State) : (cursorWord s).extractLsb' 0 7 = BitVec.ofNat 7 s.cc.avail := by
  unfold cursorWord
  rw [BitVec.extractLsb'_append_eq_of_add_le (by decide), BitVec.extractLsb'_eq_self]

theorem cursorWord_xsAvail (s : State) : (cursorWord s).extractLsb' 8 7 = BitVec.ofNat 7 s.xs.avail := by
  unfold cursorWord
  repeat rw [BitVec.extractLsb'_append_eq_of_le (by decide)]
  rw [BitVec.extractLsb'_append_eq_of_add_le (by decide), BitVec.extractLsb'_eq_self]

theorem cursorWord_lfill (s : State) : (cursorWord s).extractLsb' 16 5 = BitVec.ofNat 5 s.pl.lfill := by
  unfold cursorWord
  repeat rw [BitVec.extractLsb'_append_eq_of_le (by decide)]
  rw [BitVec.extractLsb'_append_eq_of_add_le (by decide), BitVec.extractLsb'_eq_self]

theorem cursorWord_gap (s : State) : (cursorWord s).extractLsb' 21 3 = 0#3 := by
  unfold cursorWord
  repeat rw [BitVec.extractLsb'_append_eq_of_le (by decide)]
  rw [BitVec.extractLsb'_append_eq_of_add_le (by decide), BitVec.extractLsb'_eq_self]

theorem cursorWord_bit7 (s : State) : (cursorWord s).getLsbD 7 = false := by
  simp only [cursorWord, BitVec.getLsbD_append]
  simp

theorem cursorWord_bit15 (s : State) : (cursorWord s).getLsbD 15 = false := by
  simp only [cursorWord, BitVec.getLsbD_append]
  simp

theorem cursorWord_fill (s : State) : (cursorWord s).extractLsb' 24 8 = BitVec.ofNat 8 s.b2.fill := by
  unfold cursorWord
  repeat rw [BitVec.extractLsb'_append_eq_of_le (by decide)]
  rw [BitVec.extractLsb'_eq_self]

/-- Above the ten flags every bit is one of the 22 zeros. -/
theorem statusWord_high (s : State) {k : Nat} (hk : 10 ≤ k) : (statusWord s).getLsbD k = false := by
  unfold statusWord
  iterate 10 rw [BitVec.getLsbD_append, if_neg (by omega)]
  exact BitVec.getLsbD_zero

/-! ### The block counter of a stream XOR (41_chacha20.md R164, R168, 44_xsalsa20.md R236) -/

@[simp] theorem blocksNeeded_zero (a : Nat) : blocksNeeded a 0 = 0 := by simp [blocksNeeded]

@[simp] theorem availAfter_zero (a : Nat) : availAfter a 0 = a := by simp [availAfter]

/-- With no byte left, the next byte costs a block. -/
theorem nextByte_of_spent {a n : Nat} (h : availAfter a n = 0) :
    blocksNeeded a (n + 1) = blocksNeeded a n + 1 ∧ availAfter a (n + 1) = 63 := by
  unfold availAfter blocksNeeded at *
  omega

/-- With a byte left, the next byte is taken from it. -/
theorem nextByte_of_left {a n : Nat} (h : availAfter a n ≠ 0) :
    blocksNeeded a (n + 1) = blocksNeeded a n ∧ availAfter a (n + 1) = availAfter a n - 1 := by
  unfold availAfter blocksNeeded at *
  omega

/-- The sticky bits after a block counter that stood at `c` has advanced `m` blocks: `flag` is set if it has passed
`M − 1`. -/
def wrapSticky (M : Nat) (flag : BitVec 6) (c m : Nat) (old : BitVec 6) : BitVec 6 :=
  if M ≤ c + m then old ||| flag else old

theorem wrapSticky_zero {M c : Nat} (h : c < M) (flag old : BitVec 6) : wrapSticky M flag c 0 old = old :=
  if_neg (Nat.not_le.2 h)

/-- One block more: the flag is set where the counter, taken modulo `M`, comes to 0. -/
theorem wrapSticky_succ (M c m : Nat) (flag old : BitVec 6) :
    wrapSticky M flag c (m + 1) old =
      if (c + m) % M + 1 = M then wrapSticky M flag c m old ||| flag else wrapSticky M flag c m old := by
  have hrange : c + m < M → (c + m) % M = c + m := Nat.mod_eq_of_lt
  unfold wrapSticky
  by_cases hpassed : M ≤ c + m
  · rw [if_pos hpassed, if_pos (by omega), BitVec.or_assoc, BitVec.or_self, ite_self]
  · have hmod := hrange (by omega)
    rw [if_neg hpassed, hmod]
    by_cases hlast : c + m + 1 = M
    · rw [if_pos (by omega), if_pos hlast]
    · rw [if_neg (by omega), if_neg hlast]

/-- What one pass of a stream XOR does to the bytes left, the block counter and `STICKY`: the one shape of the loops of
R161 and R231. `M` is the range of the counter and `flag` the sticky bit of its wrap. -/
structure StreamPass (M : Nat) (flag : BitVec 6) (avail counter : State → Nat) (body : Nat → State → State) :
    Prop where
  /-- the counter is below its range -/
  counter_lt : ∀ s, counter s < M
  /-- no byte left: a new block of 64, the counter advanced, the flag set if it wraps -/
  spent : ∀ i s, avail s = 0 → avail (body i s) = 63 ∧ counter (body i s) = (counter s + 1) % M ∧
    (body i s).sticky = if counter s + 1 = M then s.sticky ||| flag else s.sticky
  /-- a byte left: only that byte is consumed -/
  left : ∀ i s, avail s ≠ 0 → avail (body i s) = avail s - 1 ∧ counter (body i s) = counter s ∧
    (body i s).sticky = s.sticky

/-- After `n` passes, from any state. -/
theorem StreamPass.loop {M : Nat} {flag : BitVec 6} {avail counter : State → Nat} {body : Nat → State → State}
    (h : StreamPass M flag avail counter body) (n : Nat) (s : State) :
    avail (forUpTo body n s) = availAfter (avail s) n ∧
    counter (forUpTo body n s) = (counter s + blocksNeeded (avail s) n) % M ∧
    (forUpTo body n s).sticky = wrapSticky M flag (counter s) (blocksNeeded (avail s) n) s.sticky := by
  induction n with
  | zero => simp [Nat.mod_eq_of_lt (h.counter_lt s), wrapSticky_zero (h.counter_lt s)]
  | succ n ih =>
    obtain ⟨havail, hcounter, hsticky⟩ := ih
    rw [forUpTo_succ]
    by_cases hleft : availAfter (avail s) n = 0
    · obtain ⟨hneeded, hafter⟩ := nextByte_of_spent hleft
      obtain ⟨havail', hcounter', hsticky'⟩ := h.spent n _ (havail.trans hleft)
      refine ⟨havail'.trans hafter.symm, ?_, ?_⟩
      · rw [hcounter', hcounter, hneeded, Nat.mod_add_mod, Nat.add_assoc]
      · rw [hsticky', hcounter, hsticky, hneeded, wrapSticky_succ]
    · obtain ⟨hneeded, hafter⟩ := nextByte_of_left hleft
      obtain ⟨havail', hcounter', hsticky'⟩ := h.left n _ (havail ▸ hleft)
      refine ⟨by rw [havail', havail, hafter], ?_, ?_⟩
      · rw [hcounter', hcounter, hneeded]
      · rw [hsticky', hsticky, hneeded]

theorem ccRefill_of_spent {s : State} (h : s.cc.avail = 0) : ccRefill s = ccNextBlock s := if_pos h

theorem ccRefill_of_left {s : State} (h : s.cc.avail ≠ 0) : ccRefill s = s := if_neg h

theorem xsRefill_of_spent {s : State} (h : s.xs.avail = 0) : xsRefill s = saNextBlock s := if_pos h

theorem xsRefill_of_left {s : State} (h : s.xs.avail ≠ 0) : xsRefill s = s := if_neg h

/-- The 32-bit counter comes to 0 exactly where it stood at 2^32 − 1 (R168). -/
theorem add32_one_eq_zero (c : Word) : add32 c 1 = 0 ↔ c.toNat + 1 = 2 ^ 32 := by
  unfold add32
  bv_omega

/-- `CCNextBlock` sets its flag exactly where the counter wraps (R164, R168). -/
theorem ccNextBlock_sticky_of_counter (s : State) :
    (ccNextBlock s).sticky = if s.cc.st[12].toNat + 1 = 2 ^ 32 then s.sticky ||| stickyCcWrap else s.sticky := by
  simp only [ccNextBlock_sticky, add32_one_eq_zero]

theorem ccXorByte_streamPass : StreamPass (2 ^ 32) stickyCcWrap (·.cc.avail) (·.cc.st[12].toNat) ccXorByte where
  counter_lt s := s.cc.st[12].isLt
  spent i s h := by
    rw [ccXorByte_cc, ccXorByte_sticky, ccRefill_of_spent h, ccNextBlock_sticky_of_counter]
    exact ⟨rfl, by simp [add32], rfl⟩
  left i s h := by
    rw [ccXorByte_cc, ccXorByte_sticky, ccRefill_of_left h]
    exact ⟨rfl, rfl, rfl⟩

theorem xsCounter_toNat (x : XS) : (xsCounter x).toNat = x.st[9].toNat * 2 ^ 32 + x.st[8].toNat := by
  rw [xsCounter, BitVec.toNat_append, ← Nat.shiftLeft_add_eq_or_of_lt x.st[8].isLt, Nat.shiftLeft_eq]

/-- `SANextBlock` advances the 64-bit counter, the carry going from word 8 into word 9 (R236). -/
theorem xsCounter_saNextBlock (s : State) :
    (xsCounter (saNextBlock s).xs).toNat = ((xsCounter s.xs).toNat + 1) % 2 ^ 64 := by
  rw [xsCounter_toNat]
  simp
  omega

theorem xsXorByte_streamPass :
    StreamPass (2 ^ 64) stickyXsWrap (·.xs.avail) (fun s => (xsCounter s.xs).toNat) xsXorByte where
  counter_lt s := (xsCounter s.xs).isLt
  spent i s h := by
    rw [xsXorByte_xs, xsXorByte_sticky, xsRefill_of_spent h]
    exact ⟨rfl, xsCounter_saNextBlock s, rfl⟩
  left i s h := by
    rw [xsXorByte_xs, xsXorByte_sticky, xsRefill_of_left h]
    exact ⟨rfl, rfl, rfl⟩

/-! ### What a command leaves in `STICKY` and `KEY` (R25, R35, 60_exceptions.md R290) -/

/-- An outcome that is `complete` over a state with these sticky bits and this `KEY`. -/
def CompletesOver (sticky : BitVec 6) (key : Vector Word 16) (o : Host.Outcome State Fault Refusal) : Prop :=
  ∃ opc c u, o = .next (complete opc c u) ∧ u.sticky = sticky ∧ u.key = key

section
variable {sticky : BitVec 6} {key : Vector Word 16}

theorem completesOver_endWith {opc : Byte} {c : Code} {u : State} (hsticky : u.sticky = sticky) (hkey : u.key = key) :
    CompletesOver sticky key (endWith opc c u) := ⟨opc, c, u, rfl, hsticky, hkey⟩

theorem completesOver_ite {p : Prop} [Decidable p] {a b : Host.Outcome State Fault Refusal}
    (ha : CompletesOver sticky key a) (hb : CompletesOver sticky key b) :
    CompletesOver sticky key (if p then a else b) := by
  by_cases h : p
  · rwa [if_pos h]
  · rwa [if_neg h]

/-- A loop whose passes keep `STICKY` and `KEY`. -/
theorem completesOver_loop {opc : Byte} {c : Code} {body : Nat → State → State} {n : Nat} {s : State}
    (hsticky : ∀ i u, (body i u).sticky = u.sticky) (hkey : ∀ i u, (body i u).key = u.key) :
    CompletesOver s.sticky s.key (endWith opc c (forUpTo body n s)) :=
  completesOver_endWith (forUpTo_keeps State.sticky body hsticky n s) (forUpTo_keeps State.key body hkey n s)

theorem CompletesOver.sticky_eq {o : Host.Outcome State Fault Refusal} {t : State} (h : CompletesOver sticky key o)
    (ho : o = .next t) : t.sticky = sticky ||| codeSticky t.code := by
  obtain ⟨opc, c, u, rfl, rfl, -⟩ := h
  cases ho
  rfl

theorem CompletesOver.key_eq {o : Host.Outcome State Fault Refusal} {t : State} (h : CompletesOver sticky key o)
    (ho : o = .next t) : t.key = key := by
  obtain ⟨opc, c, u, rfl, -, rfl⟩ := h
  cases ho
  rfl

end

theorem execNop_over (s : State) : CompletesOver s.sticky s.key (execNop s) := completesOver_endWith rfl rfl

/-- What each of the five zeroisations keeps, `ZEROIZE` keeps under any mask (R281). -/
theorem zeroizeMask_sticky (arg : Byte) (s : State) : (zeroizeMask arg s).sticky = s.sticky := by
  simp only [zeroizeMask, apply_ite State.sticky, zeroizeStage_sticky, zeroizeXS_sticky, zeroizeB2_sticky,
    zeroizePL_sticky, zeroizeCC_sticky, ite_self]

theorem execZeroize_over (arg : Byte) (s : State) : ∃ key, CompletesOver s.sticky key (execZeroize arg s) := by
  by_cases h : zeroizeArgLegal arg = false
  · exact ⟨s.key, by rw [execZeroize, if_pos h]; exact completesOver_endWith rfl rfl⟩
  · exact ⟨_, by rw [execZeroize, if_neg h]; exact completesOver_endWith (zeroizeMask_sticky arg s) rfl⟩

theorem execCcInit_over (s : State) : CompletesOver s.sticky (Vector.replicate 16 0) (execCcInit s) :=
  completesOver_ite (completesOver_endWith rfl rfl)
    (completesOver_ite (completesOver_endWith rfl rfl) (completesOver_endWith rfl rfl))

/-- `CC_XOR` stops at a check, or runs its loop (R161). -/
theorem execCcXor_cases (s : State) :
    CompletesOver s.sticky s.key (execCcXor s) ∨
      execCcXor s = endWith 0x11#8 .ok (forUpTo ccXorByte s.len.toNat s) := by
  unfold execCcXor
  split_ifs
  · exact .inl (completesOver_endWith rfl rfl)
  · exact .inl (completesOver_endWith rfl rfl)
  · exact .inl (completesOver_endWith rfl rfl)
  · exact .inr rfl

theorem execCcPolykey_over (arg : Byte) (s : State) : CompletesOver s.sticky s.key (execCcPolykey arg s) :=
  completesOver_ite (completesOver_endWith rfl rfl)
    (completesOver_ite (completesOver_endWith rfl rfl) (completesOver_endWith rfl rfl))

theorem execPlInit_over (s : State) : CompletesOver s.sticky (Vector.replicate 16 0) (execPlInit s) :=
  completesOver_ite (completesOver_endWith rfl rfl) (completesOver_endWith rfl rfl)

theorem execPlUpdate_over (s : State) : CompletesOver s.sticky s.key (execPlUpdate s) :=
  completesOver_ite (completesOver_endWith rfl rfl)
    (completesOver_ite (completesOver_endWith rfl rfl)
      (completesOver_loop (fun _ _ => rfl) (fun _ _ => rfl)))

theorem execPlFinish_over (s : State) : CompletesOver s.sticky s.key (execPlFinish s) :=
  completesOver_ite (completesOver_endWith rfl rfl) (completesOver_endWith rfl rfl)

/-- Both ends of the comparison have a linked and an unlinked form (R191). -/
theorem execPlVerify_over (s : State) : CompletesOver s.sticky s.key (execPlVerify s) :=
  completesOver_ite (completesOver_endWith rfl rfl)
    (completesOver_ite (completesOver_endWith rfl rfl)
      (completesOver_ite (completesOver_endWith (by split <;> rfl) (by split <;> rfl))
        (completesOver_endWith (by split <;> rfl) (by split <;> rfl))))

theorem execB2Init_over (s : State) : CompletesOver s.sticky (Vector.replicate 16 0) (execB2Init s) :=
  completesOver_ite (completesOver_endWith rfl rfl)
    (completesOver_ite (completesOver_endWith rfl rfl) (completesOver_endWith rfl rfl))

theorem execB2Update_over (s : State) : CompletesOver s.sticky s.key (execB2Update s) :=
  completesOver_ite (completesOver_endWith rfl rfl)
    (completesOver_ite (completesOver_endWith rfl rfl)
      (completesOver_loop (fun _ _ => rfl) (fun _ _ => rfl)))

theorem execB2Final_over (s : State) : CompletesOver s.sticky s.key (execB2Final s) :=
  completesOver_ite (completesOver_endWith rfl rfl) (completesOver_endWith rfl rfl)

theorem execXsInit_over (s : State) : CompletesOver s.sticky (Vector.replicate 16 0) (execXsInit s) :=
  completesOver_ite (completesOver_endWith rfl rfl)
    (completesOver_ite (completesOver_endWith rfl rfl) (completesOver_endWith rfl rfl))

/-- `XS_XOR` stops at a check, or runs its loop (R231). -/
theorem execXsXor_cases (s : State) :
    CompletesOver s.sticky s.key (execXsXor s) ∨
      execXsXor s = endWith 0x41#8 .ok (forUpTo xsXorByte s.len.toNat s) := by
  unfold execXsXor
  split_ifs
  · exact .inl (completesOver_endWith rfl rfl)
  · exact .inl (completesOver_endWith rfl rfl)
  · exact .inr rfl

/-- The commands that read `KEY` (R35). -/
theorem key_of_exec_keyCommand {i : Instr} (hi : i ∈ [Instr.ccInit, Instr.plInit, Instr.xsInit, Instr.b2Init])
    {s t : State} (h : exec i s = .next t) : t.key = Vector.replicate 16 0 := by
  simp only [List.mem_cons, List.not_mem_nil, or_false] at hi
  rcases hi with rfl | rfl | rfl | rfl
  · exact (execCcInit_over s).key_eq h
  · exact (execPlInit_over s).key_eq h
  · exact (execXsInit_over s).key_eq h
  · exact (execB2Init_over s).key_eq h

theorem key_of_execCcXor {s t : State} (h : execCcXor s = .next t) : t.key = s.key := by
  obtain hover | hrun := execCcXor_cases s
  · exact hover.key_eq h
  · cases hrun.symm.trans h
    exact forUpTo_keeps State.key _ ccXorByte_key _ _

theorem key_of_execXsXor {s t : State} (h : execXsXor s = .next t) : t.key = s.key := by
  obtain hover | hrun := execXsXor_cases s
  · exact hover.key_eq h
  · cases hrun.symm.trans h
    exact forUpTo_keeps State.key _ xsXorByte_key _ _

theorem key_of_exec_otherCommand {i : Instr} (hi : i ∉ [Instr.ccInit, Instr.plInit, Instr.xsInit, Instr.b2Init])
    (hz : ∀ arg, i ≠ .zeroize arg) {s t : State} (h : exec i s = .next t) : t.key = s.key := by
  cases i with
  | nop => exact (execNop_over s).key_eq h
  | zeroize arg => exact absurd rfl (hz arg)
  | ccInit => exact absurd (by decide) hi
  | ccXor => exact key_of_execCcXor h
  | ccPolykey arg => exact (execCcPolykey_over arg s).key_eq h
  | plInit => exact absurd (by decide) hi
  | plUpdate => exact (execPlUpdate_over s).key_eq h
  | plFinish => exact (execPlFinish_over s).key_eq h
  | plVerify => exact (execPlVerify_over s).key_eq h
  | b2Init => exact absurd (by decide) hi
  | b2Update => exact (execB2Update_over s).key_eq h
  | b2Final => exact (execB2Final_over s).key_eq h
  | xsInit => exact absurd (by decide) hi
  | xsXor => exact key_of_execXsXor h

/-- The three ways a command word leaves `STICKY`: with the class bit of its code, or, `OK`, with the wrap bit of a
stream XOR whose block counter has passed its end. -/
inductive CommandSticky (s t : State) : Except Reject Instr → Prop where
  /-- the class bit of the completion code, none for `OK` (R290) -/
  | code (d : Except Reject Instr) (hsticky : t.sticky = s.sticky ||| codeSticky t.code) : CommandSticky s t d
  /-- `CC_XOR` past block 2^32 − 1 (R168) -/
  | ccWrap (hcode : t.code = .ok) (hwrap : 2 ^ 32 ≤ s.cc.st[12].toNat + blocksNeeded s.cc.avail s.len.toNat)
      (hsticky : t.sticky = s.sticky ||| stickyCcWrap) : CommandSticky s t (.ok .ccXor)
  /-- `XS_XOR` past block 2^64 − 1 (R236) -/
  | xsWrap (hcode : t.code = .ok) (hwrap : 2 ^ 64 ≤ (xsCounter s.xs).toNat + blocksNeeded s.xs.avail s.len.toNat)
      (hsticky : t.sticky = s.sticky ||| stickyXsWrap) : CommandSticky s t (.ok .xsXor)

theorem execCcXor_sticky {s t : State} (h : execCcXor s = .next t) : CommandSticky s t (.ok .ccXor) := by
  obtain hover | hrun := execCcXor_cases s
  · exact .code _ (hover.sticky_eq h)
  · cases hrun.symm.trans h
    obtain ⟨-, -, hsticky⟩ := ccXorByte_streamPass.loop s.len.toNat s
    rw [complete_ok]
    by_cases hwrap : 2 ^ 32 ≤ s.cc.st[12].toNat + blocksNeeded s.cc.avail s.len.toNat
    · exact .ccWrap rfl hwrap (hsticky.trans (if_pos hwrap))
    · exact .code _ (by simpa [codeSticky] using hsticky.trans (if_neg hwrap))

theorem execXsXor_sticky {s t : State} (h : execXsXor s = .next t) : CommandSticky s t (.ok .xsXor) := by
  obtain hover | hrun := execXsXor_cases s
  · exact .code _ (hover.sticky_eq h)
  · cases hrun.symm.trans h
    obtain ⟨-, -, hsticky⟩ := xsXorByte_streamPass.loop s.len.toNat s
    rw [complete_ok]
    by_cases hwrap : 2 ^ 64 ≤ (xsCounter s.xs).toNat + blocksNeeded s.xs.avail s.len.toNat
    · exact .xsWrap rfl hwrap (hsticky.trans (if_pos hwrap))
    · exact .code _ (by simpa [codeSticky] using hsticky.trans (if_neg hwrap))

theorem exec_sticky {i : Instr} {s t : State} (h : exec i s = .next t) : CommandSticky s t (.ok i) := by
  cases i with
  | nop => exact .code _ ((execNop_over s).sticky_eq h)
  | zeroize arg =>
    obtain ⟨_, hover⟩ := execZeroize_over arg s
    exact .code _ (hover.sticky_eq h)
  | ccInit => exact .code _ ((execCcInit_over s).sticky_eq h)
  | ccXor => exact execCcXor_sticky h
  | ccPolykey arg => exact .code _ ((execCcPolykey_over arg s).sticky_eq h)
  | plInit => exact .code _ ((execPlInit_over s).sticky_eq h)
  | plUpdate => exact .code _ ((execPlUpdate_over s).sticky_eq h)
  | plFinish => exact .code _ ((execPlFinish_over s).sticky_eq h)
  | plVerify => exact .code _ ((execPlVerify_over s).sticky_eq h)
  | b2Init => exact .code _ ((execB2Init_over s).sticky_eq h)
  | b2Update => exact .code _ ((execB2Update_over s).sticky_eq h)
  | b2Final => exact .code _ ((execB2Final_over s).sticky_eq h)
  | xsInit => exact .code _ ((execXsInit_over s).sticky_eq h)
  | xsXor => exact execXsXor_sticky h

theorem runCommand_sticky {w : Word} {s t : State} (h : runCommand w s = .next t) : CommandSticky s t (decode w) := by
  obtain ⟨i, hok, hrun⟩ | ⟨e, -, hrun⟩ := runCommand_cases w s
  · rw [hok]
    exact exec_sticky (hrun.symm.trans h)
  · cases hrun.symm.trans h
    exact .code _ rfl

/-! ### What one step does to `STICKY` (R25, 20_memory.md R80) -/

theorem regWrite_sticky_of_ne {r : Reg} (hr : r ≠ .sticky) (s : State) (v : Word) :
    (regWrite s v r).sticky = s.sticky := by
  cases r with
  | sticky => exact absurd rfl hr
  | _ => rfl

/-- Everything one step can do to `STICKY`. -/
inductive StepSticky (s t : State) : Prop where
  /-- nothing: no transaction, a read, a write of another register -/
  | same (hsticky : t.sticky = s.sticky)
  /-- `BUSERR` set (R80) -/
  | busError (off : Nat) (hresponse : t.response = .busError off) (hsticky : t.sticky = s.sticky ||| stickyBusErr)
  /-- the host's write of `STICKY` itself (R77) -/
  | cleared (v : Word) (rest : List HostEvent) (hpending : s.pending = .write 0x010 4 v :: rest)
      (hsticky : t.sticky = stickyClear s.sticky v)
  /-- reset (R330) -/
  | reset (rest : List HostEvent) (hpending : s.pending = .reset :: rest) (hsticky : t.sticky = 0)
  /-- a word written to `CMD` -/
  | command (w : Word) (rest : List HostEvent) (hpending : s.pending = .write 0x004 4 w :: rest)
      (hcommand : CommandSticky s t (decode w))

theorem stepSticky_of_read {off size : Nat} {rest : List HostEvent} {s t : State}
    (h : transact (.read off size) (takeEvent rest s) = .next t) : StepSticky s t := by
  cases h
  obtain ⟨-, hread⟩ | ⟨r, -, hread⟩ := memRead_cases off size (takeEvent rest s) <;> rw [hread]
  · exact .busError off rfl rfl
  · exact .same rfl

/-- Taking the transaction and answering it change nothing a command reads. -/
theorem CommandSticky.of_respond_takeEvent {r : Response} {rest : List HostEvent} {s t : State}
    {d : Except Reject Instr} (h : CommandSticky (respond r (takeEvent rest s)) t d) : CommandSticky s t d := by
  cases h with
  | code _ hsticky => exact .code _ hsticky
  | ccWrap hcode hwrap hsticky => exact .ccWrap hcode hwrap hsticky
  | xsWrap hcode hwrap hsticky => exact .xsWrap hcode hwrap hsticky

theorem stepSticky_of_write {off size : Nat} {v : Word} {rest : List HostEvent} {s t : State}
    (hpending : s.pending = .write off size v :: rest)
    (h : transact (.write off size v) (takeEvent rest s) = .next t) : StepSticky s t := by
  obtain ⟨-, hw⟩ | ⟨htarget, hw⟩ | ⟨r, -, htarget, hw⟩ := memWrite_cases off size v (takeEvent rest s)
  · cases hw.symm.trans h
    exact .busError off rfl rfl
  · obtain ⟨rfl, rfl⟩ := regOffset_of_accessTarget htarget
    exact .command v rest hpending (runCommand_sticky (hw.symm.trans h)).of_respond_takeEvent
  · obtain ⟨rfl, rfl⟩ := regOffset_of_accessTarget htarget
    cases hw.symm.trans h
    by_cases hr : r = .sticky
    · subst hr
      exact .cleared v rest hpending rfl
    · exact .same (regWrite_sticky_of_ne hr (takeEvent rest s) v)

theorem step_sticky {s t : State} (h : step s = .next t) : StepSticky s t := by
  obtain ⟨-, hstep⟩ | ⟨e, rest, hpending, hstep⟩ := step_cases s
  · cases hstep.symm.trans h
    exact .same rfl
  · have htransact := hstep.symm.trans h
    cases e with
    | read off size => exact stepSticky_of_read htransact
    | write off size v => exact stepSticky_of_write hpending htransact
    | reset =>
      cases htransact
      exact .reset rest hpending rfl

/-! ### Single bits of `STICKY` (R25) -/

theorem getLsbD_or_of_true {a : BitVec 6} {k : Nat} (h : a.getLsbD k = true) (b : BitVec 6) :
    (a ||| b).getLsbD k = true := by rw [BitVec.getLsbD_or, h, Bool.true_or]

/-- A bit that is new after an OR is a bit of the mask. -/
theorem getLsbD_of_getLsbD_or {a b : BitVec 6} {k : Nat} (ha : a.getLsbD k = false) (h : (a ||| b).getLsbD k = true) :
    b.getLsbD k = true := by rwa [BitVec.getLsbD_or, ha, Bool.false_or] at h

theorem stickyClear_getLsbD (old : BitVec 6) (v : Word) (k : Nat) :
    (stickyClear old v).getLsbD k = (old.getLsbD k && !v.getLsbD k) := by
  by_cases hk : k < 6
  · simp [stickyClear, hk]
  · simp [stickyClear, hk, BitVec.getLsbD_of_ge old k (by omega)]

/-- A flag has one bit. -/
theorem eq_of_getLsbD_twoPow {j k : Nat} (h : (BitVec.twoPow 6 j).getLsbD k = true) : k = j := by
  simp only [BitVec.getLsbD_twoPow, Bool.and_eq_true, decide_eq_true_eq] at h
  exact h.2.symm

/-- The class bit of a code stands for the codes of its class (R290, R292). -/
theorem codeSticky_class {c : Code} {k : Nat} (h : (codeSticky c).getLsbD k = true) :
    (k = 0 ∧ codeByte c ∈ [0x01#8, 0x02#8, 0x03#8, 0x04#8]) ∨
    (k = 1 ∧ codeByte c ∈ [0x10#8, 0x11#8, 0x12#8, 0x13#8]) ∨ (k = 2 ∧ codeByte c = 0x20#8) := by
  have hbits : ∀ k : Fin 6, (codeSticky c).getLsbD k = true →
      (k.val = 0 ∧ codeByte c ∈ [0x01#8, 0x02#8, 0x03#8, 0x04#8]) ∨
      (k.val = 1 ∧ codeByte c ∈ [0x10#8, 0x11#8, 0x12#8, 0x13#8]) ∨ (k.val = 2 ∧ codeByte c = 0x20#8) := by
    cases c <;> decide
  exact hbits ⟨k, BitVec.lt_of_getLsbD h⟩ h

/-- No command clears a bit. -/
theorem CommandSticky.keeps {s t : State} {d : Except Reject Instr} (h : CommandSticky s t d) {k : Nat}
    (hk : s.sticky.getLsbD k = true) : t.sticky.getLsbD k = true := by
  cases h with
  | code _ hsticky => rw [hsticky]; exact getLsbD_or_of_true hk _
  | ccWrap _ _ hsticky => rw [hsticky]; exact getLsbD_or_of_true hk _
  | xsWrap _ _ hsticky => rw [hsticky]; exact getLsbD_or_of_true hk _

/-- What clears a bit (R25). -/
theorem StepSticky.cause_of_clear {s t : State} (h : StepSticky s t) {k : Nat} (hs : s.sticky.getLsbD k = true)
    (ht : t.sticky.getLsbD k = false) :
    (∃ rest, s.pending = .reset :: rest) ∨
      (∃ v rest, s.pending = .write 0x010 4 v :: rest ∧ v.getLsbD k = true) := by
  have hcleared : t.sticky.getLsbD k ≠ true := by simp [ht]
  cases h with
  | same hsticky => exact absurd (hsticky ▸ hs) hcleared
  | busError off _ hsticky => exact absurd (hsticky ▸ getLsbD_or_of_true hs _) hcleared
  | cleared v rest hpending hsticky =>
    rw [hsticky, stickyClear_getLsbD, hs] at ht
    exact .inr ⟨v, rest, hpending, by simpa using ht⟩
  | reset rest hpending _ => exact .inl ⟨rest, hpending⟩
  | command w rest _ hcommand => exact absurd (hcommand.keeps hs) hcleared

/-! ### The reset state (R51) -/

theorem bufB_reset (i : Nat) : bufB State.reset i = 0 := by
  by_cases hi : i < 128 <;> simp [bufB, State.reset, Vector.getD, hi]

theorem regRead_reset (r : Reg) : regRead State.reset r = if r = .id then 0x4C444331#32 else 0#32 := by
  cases r with
  | nonce i => simp [regRead, State.reset]
  | xtag i => simp [regRead, State.reset]
  | tag i => simp [regRead, State.reset]
  | digest i => simp [regRead, State.reset]
  | buf i => simp only [regRead, bufWord, bufB_reset]; rfl
  | _ => rfl

/-! ### The obligations -/

/-- Settles O15: of the ways a step can treat `STICKY`, only reset and the host's write clear a bit, and only the bit's
own event sets it. The block count behind bits 4 and 5 holds for every `avail`, so the premise on it is dropped. -/
theorem stickyChangesOnlyByItsEvents : Obligations.StickyChangesOnlyByItsEvents := by
  unfold Obligations.StickyChangesOnlyByItsEvents
  intro s t k hstep
  refine ⟨fun hs ht => (step_sticky hstep).cause_of_clear hs ht, fun hs ht => ?_⟩
  cases step_sticky hstep with
  | same hsticky => rw [hsticky, hs] at ht; exact absurd ht (by simp)
  | busError off hresponse hsticky =>
    have hk := eq_of_getLsbD_twoPow (j := 3) (getLsbD_of_getLsbD_or hs (hsticky ▸ ht))
    exact .inl ⟨hk, off, hresponse⟩
  | cleared v rest _ hsticky => rw [hsticky, stickyClear_getLsbD, hs] at ht; exact absurd ht (by simp)
  | reset rest _ hsticky => rw [hsticky] at ht; exact absurd ht (by simp)
  | command w rest hpending hcommand =>
    refine .inr ⟨w, rest, hpending, ?_⟩
    generalize decode w = d at *
    cases hcommand with
    | code _ hsticky =>
      obtain huse | hcfg | hauth := codeSticky_class (getLsbD_of_getLsbD_or hs (hsticky ▸ ht))
      · exact .inl huse
      · exact .inr (.inl hcfg)
      · exact .inr (.inr (.inl hauth))
    | ccWrap hcode hwrap hsticky =>
      have hk := eq_of_getLsbD_twoPow (j := 4) (getLsbD_of_getLsbD_or hs (hsticky ▸ ht))
      exact .inr (.inr (.inr (.inl ⟨hk, rfl, hcode, fun _ => hwrap⟩)))
    | xsWrap hcode hwrap hsticky =>
      have hk := eq_of_getLsbD_twoPow (j := 5) (getLsbD_of_getLsbD_or hs (hsticky ▸ ht))
      exact .inr (.inr (.inr (.inr ⟨hk, rfl, hcode, fun _ => hwrap⟩)))

/-- Settles O8: no register stands at such an access, so it ends by `raiseBusError`. -/
theorem misdirectedAccessIsBusError : Obligations.MisdirectedAccessIsBusError := by
  unfold Obligations.MisdirectedAccessIsBusError
  intro s e rest off size hpending he hmisdirected
  have htarget := accessTarget_of_misdirected hmisdirected
  rw [step_of_pending hpending]
  obtain rfl | ⟨v, rfl⟩ := he
  · exact transact_read_of_noTarget htarget _
  · exact transact_write_of_noTarget htarget v _

/-- Settles O13: each level is below the range of its field. -/
theorem cursorRegisterFields : Obligations.CursorRegisterFields := by
  unfold Obligations.CursorRegisterFields
  intro s hcc hxs hpl hb2
  refine ⟨?_, ?_, ?_, ?_, ?_, cursorWord_gap s, ?_, fun v => rfl⟩
  · rw [regRead, cursorWord_ccAvail, BitVec.toNat_ofNat, Nat.mod_eq_of_lt (by omega)]
  · exact cursorWord_bit7 s
  · rw [regRead, cursorWord_xsAvail, BitVec.toNat_ofNat, Nat.mod_eq_of_lt (by omega)]
  · exact cursorWord_bit15 s
  · rw [regRead, cursorWord_lfill, BitVec.toNat_ofNat, Nat.mod_eq_of_lt (by omega)]
  · rw [regRead, cursorWord_fill, BitVec.toNat_ofNat, Nat.mod_eq_of_lt (by omega)]

/-- Settles O19: by the command's class; the host reads 0 from `KEY` in every state. -/
theorem keyIsConsumedByKeyCommands : Obligations.KeyIsConsumedByKeyCommands := by
  unfold Obligations.KeyIsConsumedByKeyCommands
  intro i s t h
  exact ⟨fun hi => key_of_exec_keyCommand hi h, fun hi hz => key_of_exec_otherCommand hi hz h, fun _ => rfl⟩

/-- Settles O12: the flag at each place of the word, and nothing above the tenth. -/
theorem statusRegisterBits : Obligations.StatusRegisterBits := by
  unfold Obligations.StatusRegisterBits
  intro s
  refine ⟨?_, ?_, ?_, ?_, ?_, ?_, ?_, ?_, ?_, ?_, fun k hk => statusWord_high s hk, fun v => rfl⟩
  all_goals
    simp only [regRead, statusWord, BitVec.getLsbD_append]
    simp

/-- Settles O14: an invalid context is all zero, by the invariant. -/
theorem counterRegistersAreLive : Obligations.CounterRegistersAreLive := by
  unfold Obligations.CounterRegistersAreLive
  intro s hinv
  refine ⟨rfl, rfl, rfl, fun hcc => ?_, fun hxs => ?_, fun v => ⟨rfl, rfl, rfl⟩⟩
  · rw [regRead, hinv.cc.invalid_zero hcc]; rfl
  · rw [regRead, regRead, hinv.xs.invalid_zero hxs]; exact ⟨rfl, rfl⟩

/-- Settles O52: the fields of `State.reset` as they stand, and the reads one register at a time. -/
theorem resetStateIsZero : Obligations.ResetStateIsZero := by
  unfold Obligations.ResetStateIsZero
  exact ⟨rfl, rfl, rfl, rfl, rfl, rfl, rfl, rfl, rfl, rfl, rfl, rfl, rfl, rfl, rfl, rfl, rfl, rfl, rfl, rfl,
    regRead_reset⟩

end Sys2Proof.Proofs
end

section
/-! The register window (20_memory.md): the layout of its registers and holes (R71, R42), and what a host read (R76) and
a host write (R77) of a register do. -/

namespace Sys2Proof.Proofs

open Sys2Proof.Machine

/-! ### The lookup is the inverse of the table (10_state.md section 2, R71) -/

/-- Converse of `regAt_foundAt`. A register that stands alone is found by its own comparison. Word `i` of an array is
aligned, equals no lone offset and lies in no other array's range, and the division gives back `i`. -/
theorem regAt_of_regOffset {off : Nat} {r : Reg} (h : regOffset r = off) : regAt off = some r := by
  cases r with
  | key i | nonce i | xtag i | tag i | digest i | buf i =>
    simp only [regOffset] at h
    unfold regAt
    repeat rw [if_neg (by omega)]
    repeat rw [dif_neg (by omega)]
    rw [dif_pos (by omega)]
    simp only [← h, Nat.add_sub_cancel_left, Nat.mul_div_cancel_left _ (Nat.succ_pos 3)]
  | _ => subst h; rfl

theorem accessTarget_regOffset (r : Reg) : accessTarget (regOffset r) 4 = some r :=
  (accessTarget_eq_some ..).2 ⟨rfl, regAt_of_regOffset rfl⟩

/-! ### The holes (R42) -/

/-- The alignment check of a lookup. -/
theorem ite_none_eq_none {α : Type} {p : Prop} [Decidable p] {b : Option α} :
    (if p then none else b) = none ↔ p ∨ b = none := by
  by_cases h : p <;> simp [h]

/-- A row of the lookup for a register that stands alone. -/
theorem ite_some_eq_none {α : Type} {p : Prop} [Decidable p] {a : α} {b : Option α} :
    (if p then some a else b) = none ↔ ¬p ∧ b = none := by
  by_cases h : p <;> simp [h]

/-- A row of the lookup for an array, whose index needs the range `p`. -/
theorem dite_some_eq_none {α : Type} {p : Prop} [Decidable p] {a : p → α} {b : Option α} :
    (if h : p then some (a h) else b) = none ↔ ¬p ∧ b = none := by
  by_cases h : p <;> simp [h]

/-- The lookup finds nothing exactly where every row fails: misaligned, at a hole, or past `BUF`. -/
theorem regAt_eq_none (off : Nat) :
    regAt off = none ↔ off % 4 ≠ 0 ∨ off = 0x03C ∨ off = 0x098 ∨ off = 0x09C ∨ 0x180 ≤ off := by
  unfold regAt
  simp only [ite_none_eq_none, ite_some_eq_none, dite_some_eq_none, and_true]
  omega

/-! ### What a read returns (R76) -/

/-- No register shows the model's list of pending transactions. -/
theorem regRead_takeEvent (rest : List HostEvent) (s : State) (r : Reg) :
    regRead (takeEvent rest s) r = regRead s r := by
  cases r <;> rfl

theorem step_of_regRead {s : State} {r : Reg} {rest : List HostEvent}
    (h : s.pending = .read (regOffset r) 4 :: rest) :
    step s = .next { s with pending := rest, response := .data (regRead s r) } := by
  rw [step_of_pending h]
  simp only [transact, memRead, accessTarget_regOffset, regRead_takeEvent]
  rfl

/-- The bytes of a word packed from `f 0` to `f 3`, the first least significant (R132): byte `j` is `f j`. -/
theorem wordByte_le32 (f : Nat → Byte) {j : Nat} (hj : j < 4) : wordByte (le32 (f 0) (f 1) (f 2) (f 3)) j = f j := by
  unfold wordByte le32
  match j, hj with
  | 0, _ | 1, _ | 2, _ =>
    repeat rw [BitVec.extractLsb'_append_eq_of_le (by decide)]
    rw [BitVec.extractLsb'_append_eq_of_add_le (by decide), BitVec.extractLsb'_eq_self]
  | 3, _ =>
    repeat rw [BitVec.extractLsb'_append_eq_of_le (by decide)]
    rw [BitVec.extractLsb'_eq_self]

/-- Byte `j` of word `i` of `BUF` is `BUFB(4i + j)` (R72, R73). -/
theorem wordByte_bufWord (s : State) (i : Nat) {j : Nat} (hj : j < 4) :
    wordByte (bufWord s i) j = bufB s (4 * i + j) :=
  wordByte_le32 (fun j => bufB s (4 * i + j)) hj

theorem stickyWord_getLsbD (s : State) (k : Nat) : (stickyWord s).getLsbD k = s.sticky.getLsbD k := by
  rw [stickyWord, BitVec.getLsbD_append, BitVec.getLsbD_zero]
  by_cases hk : k < 6
  · simp [hk]
  · simp only [hk]
    exact (BitVec.getLsbD_of_ge _ _ (Nat.le_of_not_lt hk)).symm

/-- A length register reads as its byte. -/
theorem zeroExtend_byte_toNat (b : Byte) : (b.zeroExtend 32).toNat = b.toNat :=
  BitVec.toNat_setWidth_of_le (by decide)

/-! ### What a write stores (R77) -/

/-- No write reads or changes the model's list of pending transactions. -/
theorem regWrite_takeEvent (rest : List HostEvent) (s : State) (v : Word) (r : Reg) :
    regWrite (takeEvent rest s) v r = takeEvent rest (regWrite s v r) := by
  cases r <;> rfl

theorem step_of_regWrite {s : State} {r : Reg} {v : Word} {rest : List HostEvent} (hr : r ≠ .cmd)
    (h : s.pending = .write (regOffset r) 4 v :: rest) :
    step s = .next { regWrite s v r with pending := rest, response := .written } := by
  have hstep : step s = memWrite (regOffset r) 4 v (takeEvent rest s) := step_of_pending h
  have htarget := accessTarget_regOffset r
  obtain ⟨hnone, -⟩ | ⟨hcmd, -⟩ | ⟨r', -, hr', hw⟩ := memWrite_cases (regOffset r) 4 v (takeEvent rest s)
  · cases htarget.symm.trans hnone
  · cases htarget.symm.trans hcmd
    exact absurd rfl hr
  · cases htarget.symm.trans hr'
    rw [hstep, hw, regWrite_takeEvent]
    rfl

/-- Of the four byte writes, the one at `k` is the one numbered `k % 4`, and there is one only if `k` lies in word `i`. -/
theorem setBufWord_buf (s : State) (i : Nat) (v : Word) :
    (setBufWord s i v).buf =
      Vector.ofFn fun k : Fin 128 => if k.val / 4 = i then wordByte v (k.val % 4) else s.buf[k] := by
  refine Vector.ext fun k hk => ?_
  simp only [setBufWord, setBufB, Vector.getElem_setIfInBounds, Vector.getElem_ofFn]
  by_cases hi : k / 4 = i
  · rw [if_pos hi]
    obtain hj | hj | hj | hj : k % 4 = 0 ∨ k % 4 = 1 ∨ k % 4 = 2 ∨ k % 4 = 3 := by omega
    all_goals
      rw [hj]
      repeat rw [if_neg (by omega)]
      rw [if_pos (by omega)]
  · rw [if_neg hi]
    repeat rw [if_neg (by omega)]
    rfl

theorem setBufWord_eq (s : State) (i : Nat) (v : Word) :
    setBufWord s i v = { s with
      buf := Vector.ofFn fun k : Fin 128 => if k.val / 4 = i then wordByte v (k.val % 4) else s.buf[k] } := by
  rw [← setBufWord_buf]
  rfl

/-- The read-only registers that stand alone, the live words among them (R24, R32 to R34), ignore a write. -/
theorem regWrite_readOnly {r : Reg}
    (hr : r ∈ [Reg.id, Reg.result, Reg.status, Reg.ccCtr, Reg.xsCtrl, Reg.xsCtrh, Reg.cursor]) (s : State) (v : Word) :
    regWrite s v r = s := by
  simp only [List.mem_cons, List.not_mem_nil, or_false] at hr
  obtain rfl | rfl | rfl | rfl | rfl | rfl | rfl := hr <;> rfl

/-! ### The obligations -/

/-- Settles O11: the offsets by the table, the lookup by its two directions, and the holes below 512. -/
theorem windowLayout : Obligations.WindowLayout := by
  unfold Obligations.WindowLayout
  refine ⟨by simp [regOffset], fun r => regAt_of_regOffset rfl, regAt_foundAt, fun off hoff haligned => ?_⟩
  rw [regAt_eq_none]
  omega

/-- Settles O9: the access reaches the register, and each register reads as its rule says. -/
theorem readReturnsRegister : Obligations.ReadReturnsRegister := by
  unfold Obligations.ReadReturnsRegister
  refine ⟨fun s rest r h => step_of_regRead h, fun s => ?_⟩
  exact ⟨rfl, rfl, fun _ => rfl, rfl, stickyWord_getLsbD s, zeroExtend_byte_toNat s.len, zeroExtend_byte_toNat s.klen,
    zeroExtend_byte_toNat s.nlen, zeroExtend_byte_toNat s.outlen, zeroExtend_byte_toNat s.xtlen, rfl, rfl, rfl, rfl,
    fun _ => rfl, fun _ => rfl, fun _ => rfl, fun _ => rfl, fun i _ hj => wordByte_bufWord s i hj⟩

/-- Settles O10: the access reaches the register; only a write of `BUF`, kept by bytes, is more than its field's update. -/
theorem writeStoresRegister : Obligations.WriteStoresRegister := by
  unfold Obligations.WriteStoresRegister
  refine ⟨fun s rest r v hr h => step_of_regWrite hr h, fun s v => ?_⟩
  exact ⟨rfl, rfl, rfl, rfl, rfl, rfl, rfl, fun _ => rfl, fun _ => rfl, fun _ => rfl, fun i => setBufWord_eq s i v,
    fun _ hr => regWrite_readOnly hr s v, fun _ => rfl, fun _ => rfl⟩

end Sys2Proof.Proofs
end

section
/-! Encoding (30_encoding.md): the decoder accepts exactly the encodings of the well-formed commands (R101, R103, R105),
and its opcode map is the match and mask table of R103. -/

namespace Sys2Proof.Proofs

open Sys2Proof.Machine

/-! ### A command word and its three fields (R101) -/

theorem word_of_fields (w : Word) : (fieldRsvd w ++ fieldArg w) ++ fieldOpc w = w := by
  unfold fieldRsvd fieldArg fieldOpc
  rw [BitVec.extractLsb'_append_extractLsb'_eq_extractLsb' (by decide)]
  exact BitVec.extractLsb'_append_extractLsb'

theorem fieldRsvd_append (r : BitVec 16) (a o : Byte) : fieldRsvd ((r ++ a) ++ o) = r := by
  unfold fieldRsvd
  rw [BitVec.extractLsb'_append_eq_of_le (by decide), BitVec.extractLsb'_append_eq_of_le (by decide),
    BitVec.extractLsb'_eq_self]

theorem fieldArg_append (r : BitVec 16) (a o : Byte) : fieldArg ((r ++ a) ++ o) = a := by
  unfold fieldArg
  rw [BitVec.extractLsb'_append_eq_of_le (by decide), BitVec.extractLsb'_append_eq_of_add_le (by decide),
    BitVec.extractLsb'_eq_self]

theorem fieldOpc_append (r : BitVec 16) (a o : Byte) : fieldOpc ((r ++ a) ++ o) = o := by
  unfold fieldOpc
  rw [BitVec.extractLsb'_append_eq_of_add_le (by decide), BitVec.extractLsb'_eq_self]

/-- A word is put together from its fields in one way. -/
theorem append_eq_word_iff (r : BitVec 16) (a o : Byte) (w : Word) :
    (r ++ a) ++ o = w ↔ fieldRsvd w = r ∧ fieldArg w = a ∧ fieldOpc w = o := by
  constructor
  · rintro rfl
    exact ⟨fieldRsvd_append r a o, fieldArg_append r a o, fieldOpc_append r a o⟩
  · rintro ⟨rfl, rfl, rfl⟩
    exact word_of_fields w

theorem encode_eq_iff (i : Instr) (w : Word) :
    encode i = w ↔ fieldRsvd w = 0#16 ∧ fieldArg w = argOf i ∧ fieldOpc w = opcodeOf i :=
  append_eq_word_iff ..

/-! ### The legality of `ARG` (R105) -/

theorem zeroizeArgLegal_iff (arg : Byte) : zeroizeArgLegal arg = true ↔ arg &&& ~~~0x1F#8 = 0#8 := by
  revert arg; decide

theorem polykeyArgLegal_iff (arg : Byte) : polykeyArgLegal arg = true ↔ arg &&& ~~~0x01#8 = 0#8 := by
  revert arg; decide

/-- The check of the terms is the check of the decoder: `ARG` is 0 outside the bits the command uses. -/
theorem wellFormed_iff (i : Instr) : i.wellFormed = true ↔ argOf i &&& ~~~argMask i = 0#8 := by
  cases i with
  | zeroize arg => exact zeroizeArgLegal_iff arg
  | ccPolykey arg => exact polykeyArgLegal_iff arg
  | _ => decide

/-- A command that uses no bit of `ARG` is legal with `ARG` = 0 only. -/
theorem eq_zero_of_unused {arg m : Byte} (hm : m = 0#8) (h : arg &&& ~~~m = 0#8) : arg = 0#8 := by
  rw [hm, BitVec.not_zero, BitVec.and_allOnes] at h
  exact h

/-! ### The opcode map (R103) -/

theorem instrOf_opcodeOf (i : Instr) : instrOf (opcodeOf i) (argOf i) = some i := by
  cases i <;> rfl

/-- Whatever `ARG` is, an opcode selects the same command, up to the argument. -/
theorem instrOf_opcodeOf_arg (i : Instr) (arg : Byte) :
    ∃ j, instrOf (opcodeOf i) arg = some j ∧ mnemonicOf j = mnemonicOf i ∧ argMask j = argMask i := by
  cases i <;> exact ⟨_, rfl, rfl, rfl⟩

/-- The command that was found, if any, has this opcode, and this argument unless it uses none. -/
def SelectedBy (opc arg : Byte) (o : Option Instr) : Prop :=
  ∀ i, o = some i → opc = opcodeOf i ∧ (argOf i = arg ∨ argMask i = 0#8 ∧ argOf i = 0#8)

theorem selectedBy_ite {opc arg c : Byte} {i : Instr} {o : Option Instr} (hc : c = opcodeOf i)
    (harg : argOf i = arg ∨ argMask i = 0#8 ∧ argOf i = 0#8) (ho : SelectedBy opc arg o) :
    SelectedBy opc arg (if opc = c then some i else o) := by
  by_cases h : opc = c
  · rw [if_pos h]
    rintro _ ⟨rfl⟩
    exact ⟨h.trans hc, harg⟩
  · rwa [if_neg h]

theorem instrOf_selectedBy (opc arg : Byte) : SelectedBy opc arg (instrOf opc arg) := by
  unfold instrOf
  refine selectedBy_ite rfl (.inr ⟨rfl, rfl⟩) ?_
  refine selectedBy_ite rfl (.inl rfl) ?_
  iterate 2 refine selectedBy_ite rfl (.inr ⟨rfl, rfl⟩) ?_
  refine selectedBy_ite rfl (.inl rfl) ?_
  iterate 9 refine selectedBy_ite rfl (.inr ⟨rfl, rfl⟩) ?_
  exact fun _ h => nomatch h

/-! ### What the decoder accepts (R103, R105, R106) -/

/-- The three checks of the decoder, one after the other. -/
theorem decode_eq_ok_iff_checks (w : Word) (i : Instr) :
    decode w = .ok i ↔
      fieldRsvd w = 0#16 ∧ instrOf (fieldOpc w) (fieldArg w) = some i ∧ fieldArg w &&& ~~~argMask i = 0#8 := by
  unfold decode
  by_cases hrsvd : fieldRsvd w = 0#16
  · cases hfound : instrOf (fieldOpc w) (fieldArg w) with
    | none => simp [hrsvd]
    | some j =>
      by_cases hlegal : fieldArg w &&& ~~~argMask j = 0#8
      · have himp : j = i → fieldArg w &&& ~~~argMask i = 0#8 := fun h => h ▸ hlegal
        simpa [hrsvd, hlegal] using himp
      · have himp : j = i → ¬fieldArg w &&& ~~~argMask i = 0#8 := fun h => h ▸ hlegal
        simpa [hrsvd, hlegal] using himp
  · simp [hrsvd]

/-- The decoder accepts exactly the encodings of the well-formed commands. -/
theorem decode_eq_ok_iff (w : Word) (i : Instr) : decode w = .ok i ↔ i.wellFormed = true ∧ encode i = w := by
  rw [decode_eq_ok_iff_checks, wellFormed_iff, encode_eq_iff]
  constructor
  · rintro ⟨hrsvd, hfound, hlegal⟩
    obtain ⟨hopc, harg⟩ := instrOf_selectedBy _ _ i hfound
    have hargOf : fieldArg w = argOf i := by
      obtain heq | ⟨hmask, hzero⟩ := harg
      · exact heq.symm
      · exact (eq_zero_of_unused hmask hlegal).trans hzero.symm
    exact ⟨hargOf ▸ hlegal, hrsvd, hargOf, hopc⟩
  · rintro ⟨hlegal, hrsvd, harg, hopc⟩
    rw [harg, hopc]
    exact ⟨hrsvd, instrOf_opcodeOf i, hlegal⟩

theorem decode_encode {i : Instr} (h : i.wellFormed = true) : decode (encode i) = .ok i :=
  (decode_eq_ok_iff _ i).2 ⟨h, rfl⟩

/-- The fields of a word the decoder accepts. -/
theorem fields_of_decode_ok {w : Word} {i : Instr} (h : decode w = .ok i) :
    fieldRsvd w = 0#16 ∧ fieldArg w = argOf i ∧ fieldOpc w = opcodeOf i :=
  (encode_eq_iff i w).1 ((decode_eq_ok_iff w i).1 h).2

theorem wellFormed_of_decode_ok {w : Word} {i : Instr} (h : decode w = .ok i) : i.wellFormed = true :=
  ((decode_eq_ok_iff w i).1 h).1

theorem decode_error_of_forall_ne {w : Word} (h : ∀ i, decode w ≠ .ok i) : ∃ e, decode w = .error e := by
  cases hw : decode w with
  | error e => exact ⟨e, rfl⟩
  | ok i => exact absurd hw (h i)

/-! ### The match and mask table (R103) -/

/-- The row of a command: its mask has the bits of `OPC`, the reserved bits and the `ARG` bits it does not use. -/
def rowOf (i : Instr) : OpcodeRow :=
  { mnemonic := mnemonicOf i
    value := (0#16 ++ 0#8) ++ opcodeOf i
    mask := (BitVec.allOnes 16 ++ ~~~argMask i) ++ BitVec.allOnes 8 }

/-- The table holds the rows of the 14 commands; no row depends on the argument. -/
theorem opcodeTable_eq_map_rowOf :
    opcodeTable = [.nop, .zeroize 0, .ccInit, .ccXor, .ccPolykey 0, .plInit, .plUpdate, .plFinish, .plVerify, .b2Init,
      .b2Update, .b2Final, .xsInit, .xsXor].map rowOf := by decide

theorem exists_rowOf_of_mem {row : OpcodeRow} (h : row ∈ opcodeTable) : ∃ i, rowOf i = row := by
  rw [opcodeTable_eq_map_rowOf] at h
  obtain ⟨i, -, hi⟩ := List.mem_map.1 h
  exact ⟨i, hi⟩

theorem rowOf_mem (i : Instr) : rowOf i ∈ opcodeTable := by
  rw [opcodeTable_eq_map_rowOf]
  cases i with
  | zeroize arg => exact List.mem_map.2 ⟨.zeroize 0, by decide, rfl⟩
  | ccPolykey arg => exact List.mem_map.2 ⟨.ccPolykey 0, by decide, rfl⟩
  | _ => exact List.mem_map_of_mem (by decide)

/-- `w & mask` keeps the reserved bits, the `ARG` bits the command does not use, and `OPC`. -/
theorem and_rowOf_mask (i : Instr) (w : Word) :
    w &&& (rowOf i).mask = (fieldRsvd w ++ (fieldArg w &&& ~~~argMask i)) ++ fieldOpc w := by
  calc w &&& (rowOf i).mask
      = ((fieldRsvd w ++ fieldArg w) ++ fieldOpc w) &&& ((BitVec.allOnes 16 ++ ~~~argMask i) ++ BitVec.allOnes 8) := by
        rw [word_of_fields, rowOf]
    _ = (fieldRsvd w ++ (fieldArg w &&& ~~~argMask i)) ++ fieldOpc w := by
        refine BitVec.and_append.trans ?_
        rw [BitVec.and_append, BitVec.and_allOnes, BitVec.and_allOnes]

/-- A row selects the words that pass the decoder's three checks. -/
theorem rowOf_selects_iff (i : Instr) (w : Word) :
    (rowOf i).selects w = true ↔
      fieldRsvd w = 0#16 ∧ fieldArg w &&& ~~~argMask i = 0#8 ∧ fieldOpc w = opcodeOf i := by
  rw [OpcodeRow.selects, beq_iff_eq, and_rowOf_mask, append_eq_word_iff]
  simp only [rowOf, fieldRsvd_append, fieldArg_append, fieldOpc_append, eq_comm]

/-- A word that a row selects decodes to the row's command, with `ARG` as its argument. -/
theorem decode_of_selects {row : OpcodeRow} (hrow : row ∈ opcodeTable) {w : Word} (h : row.selects w = true) :
    ∃ i, decode w = .ok i ∧ mnemonicOf i = row.mnemonic ∧ argOf i = fieldArg w := by
  obtain ⟨i, rfl⟩ := exists_rowOf_of_mem hrow
  obtain ⟨hrsvd, hlegal, hopc⟩ := (rowOf_selects_iff i w).1 h
  obtain ⟨j, hfound, hname, hmask⟩ := instrOf_opcodeOf_arg i (fieldArg w)
  have hdecode : decode w = .ok j :=
    (decode_eq_ok_iff_checks w j).2 ⟨hrsvd, hopc ▸ hfound, hmask ▸ hlegal⟩
  obtain ⟨-, harg, -⟩ := fields_of_decode_ok hdecode
  exact ⟨j, hdecode, hname, harg.symm⟩

theorem selects_of_decode {w : Word} {i : Instr} (h : decode w = .ok i) : (rowOf i).selects w = true := by
  obtain ⟨hrsvd, harg, hopc⟩ := fields_of_decode_ok h
  exact (rowOf_selects_iff i w).2 ⟨hrsvd, harg ▸ (wellFormed_iff i).1 (wellFormed_of_decode_ok h), hopc⟩

/-- Column `match` of a row that selects a word is the word's opcode. -/
theorem value_of_selects {row : OpcodeRow} (hrow : row ∈ opcodeTable) {w : Word} (h : row.selects w = true) :
    row.value = (0#16 ++ 0#8) ++ fieldOpc w := by
  obtain ⟨i, rfl⟩ := exists_rowOf_of_mem hrow
  obtain ⟨-, -, hopc⟩ := (rowOf_selects_iff i w).1 h
  rw [rowOf, hopc]

/-- No two rows select one word: they would have the same `match`, and the table has none twice. -/
theorem selecting_rows_length_le_one (w : Word) : (opcodeTable.filter fun row => row.selects w).length ≤ 1 := by
  have hdistinct : (opcodeTable.map OpcodeRow.value).Nodup := by decide
  have hsame : ∀ v ∈ (opcodeTable.filter fun row => row.selects w).map OpcodeRow.value,
      v = (0#16 ++ 0#8) ++ fieldOpc w := by
    intro v hv
    obtain ⟨row, hrow, rfl⟩ := List.mem_map.1 hv
    obtain ⟨hmem, hselects⟩ := List.mem_filter.1 hrow
    exact value_of_selects hmem hselects
  have hnodup : ((opcodeTable.filter fun row => row.selects w).map OpcodeRow.value).Nodup :=
    hdistinct.sublist (List.filter_sublist.map OpcodeRow.value)
  rw [List.eq_replicate_of_mem hsame, List.nodup_replicate, List.length_map] at hnodup
  exact hnodup

/-! ### Illegal words (R104, R105) -/

/-- A word the decoder does not accept completes `E_ILLCMD`. -/
theorem runCommand_of_illegal {w : Word} (h : ∀ i, decode w ≠ .ok i) (s : State) :
    runCommand w s =
      .next { s with code := .eIllcmd, lastop := w.extractLsb' 0 8, sticky := s.sticky ||| 0x01#6 } := by
  obtain ⟨e, he⟩ := decode_error_of_forall_ne h
  exact runCommand_of_decode_error he s

/-- The commands without argument, by their opcodes. -/
theorem argOf_eq_zero_of_opcode {i : Instr}
    (h : opcodeOf i ∈ [0x00#8, 0x10#8, 0x11#8, 0x20#8, 0x21#8, 0x22#8, 0x23#8, 0x30#8, 0x31#8, 0x32#8, 0x40#8, 0x41#8]) :
    argOf i = 0#8 := by
  cases i with
  | zeroize arg => exact absurd h (show 0x01#8 ∉ _ by decide)
  | ccPolykey arg => exact absurd h (show 0x13#8 ∉ _ by decide)
  | _ => rfl

/-- A slice of `ARG` = `w[15:8]` (R101). -/
theorem extractLsb'_encode_arg (i : Instr) {k n : Nat} (h : k + n ≤ 8) :
    (encode i).extractLsb' (8 + k) n = (argOf i).extractLsb' k n := by
  rw [encode, BitVec.extractLsb'_append_eq_of_le (Nat.le_add_right 8 k), Nat.add_sub_cancel_left,
    BitVec.extractLsb'_append_eq_of_add_le h]

theorem eq_zeroize_of_opcode {i : Instr} (h : opcodeOf i = 0x01#8) : i = .zeroize (argOf i) := by
  cases i with
  | zeroize arg => rfl
  | _ => exact absurd h (by simp [opcodeOf])

theorem eq_ccPolykey_of_opcode {i : Instr} (h : opcodeOf i = 0x13#8) : i = .ccPolykey (argOf i) := by
  cases i with
  | ccPolykey arg => rfl
  | _ => exact absurd h (by simp [opcodeOf])

theorem opcodeOf_assigned (i : Instr) :
    opcodeOf i ∈ [0x00#8, 0x01#8, 0x10#8, 0x11#8, 0x13#8, 0x20#8, 0x21#8, 0x22#8, 0x23#8, 0x30#8, 0x31#8, 0x32#8,
      0x40#8, 0x41#8] := by
  cases i <;> simp [opcodeOf]

/-! ### The obligations -/

/-- Settles O1: the encoding of a well-formed command is a word the decoder accepts as that command. -/
theorem decodeEncodeRoundTrip : Obligations.DecodeEncodeRoundTrip := by
  unfold Obligations.DecodeEncodeRoundTrip
  exact fun _ => decode_encode

/-- Settles O2, the other direction of `decode_eq_ok_iff`. -/
theorem decodeAcceptsOnlyEncodings : Obligations.DecodeAcceptsOnlyEncodings := by
  unfold Obligations.DecodeAcceptsOnlyEncodings
  exact fun w i => (decode_eq_ok_iff w i).1

/-- Settles O3: a row selects by the decoder's own checks, and the rows differ in their opcode. -/
theorem opcodeMapIsTheDecoder : Obligations.OpcodeMapIsTheDecoder := by
  unfold Obligations.OpcodeMapIsTheDecoder
  intro w
  refine ⟨fun row hrow h => decode_of_selects hrow h, fun i h => ⟨rowOf i, rowOf_mem i, selects_of_decode h, rfl⟩,
    selecting_rows_length_le_one w, fun hnone => ?_⟩
  refine decode_error_of_forall_ne fun i h => ?_
  exact absurd (selects_of_decode h) (by simp [hnone _ (rowOf_mem i)])

/-- Settles O4: each word is the encoding of its command. -/
theorem decodeSpecWords : Obligations.DecodeSpecWords := by
  unfold Obligations.DecodeSpecWords
  exact ⟨decode_encode (i := .nop) rfl, decode_encode (i := .zeroize 0x13#8) rfl,
    decode_encode (i := .zeroize 0x1F#8) rfl, decode_encode (i := .ccInit) rfl, decode_encode (i := .ccXor) rfl,
    decode_encode (i := .ccPolykey 0x00#8) rfl, decode_encode (i := .ccPolykey 0x01#8) rfl,
    decode_encode (i := .plInit) rfl, decode_encode (i := .b2Init) rfl, decode_encode (i := .xsInit) rfl⟩

/-- Settles O6: the decoder accepts no such word, as the opcode of a command is one of the fourteen. -/
theorem unassignedOpcodeIsIllegal : Obligations.UnassignedOpcodeIsIllegal := by
  unfold Obligations.UnassignedOpcodeIsIllegal
  intro s w hopc
  have hreject : ∀ i, decode w ≠ .ok i := by
    intro i h
    obtain ⟨-, -, hw⟩ := fields_of_decode_ok h
    exact hopc (by rw [show w.extractLsb' 0 8 = opcodeOf i from hw]; exact opcodeOf_assigned i)
  exact ⟨_, runCommand_of_illegal hreject s, rfl, rfl⟩

/-- Settles O7: an accepted word encodes a well-formed command, which has none of the four faults. -/
theorem reservedBitsAreIllegal : Obligations.ReservedBitsAreIllegal := by
  unfold Obligations.ReservedBitsAreIllegal
  intro s w hfault
  refine runCommand_of_illegal (fun i h => ?_) s
  obtain ⟨hrsvd, harg, hopc⟩ := fields_of_decode_ok h
  obtain ⟨hwf, hw⟩ := (decode_eq_ok_iff w i).1 h
  obtain hset | ⟨hnoArg, hset⟩ | ⟨hzeroize, hset⟩ | ⟨hpolykey, hset⟩ := hfault
  · exact hset hrsvd
  · exact hset (harg.trans (argOf_eq_zero_of_opcode (hopc ▸ hnoArg)))
  · rw [eq_zeroize_of_opcode (hopc.symm.trans hzeroize)] at hwf hw
    exact hset (hw ▸ (extractLsb'_encode_arg _ (k := 5) (by decide)).trans (beq_iff_eq.1 hwf))
  · rw [eq_ccPolykey_of_opcode (hopc.symm.trans hpolykey)] at hwf hw
    exact hset (hw ▸ (extractLsb'_encode_arg _ (k := 1) (by decide)).trans (beq_iff_eq.1 hwf))

end Sys2Proof.Proofs
end

section
/-! The frame of the commands (30_encoding.md R102): what a command writes, blanked out, and the same before and after
it. Which state that is follows the writes column of R102. -/

namespace Sys2Proof.Proofs

open Sys2Proof.Machine

/-! ### What a command leaves behind at each of its ends -/

/-- Whatever the next state of this outcome is, it satisfies `P`. -/
def Leaves (P : State → Prop) (o : Host.Outcome State Fault Refusal) : Prop := ∀ t, o = .next t → P t

section
variable {P : State → Prop}

theorem leaves_endWith {opc : Byte} {c : Code} {u : State} (h : P (complete opc c u)) : Leaves P (endWith opc c u) := by
  rintro _ ⟨rfl⟩
  exact h

theorem leaves_ite {p : Prop} [Decidable p] {a b : Host.Outcome State Fault Refusal} (ha : Leaves P a)
    (hb : Leaves P b) : Leaves P (if p then a else b) := by
  by_cases h : p
  · rwa [if_pos h]
  · rwa [if_neg h]

/-- `CC_XOR` ends at a check or after its loop (R161). -/
theorem execCcXor_leaves {s : State} (hstop : ∀ c, P (complete 0x11#8 c s))
    (hrun : P (complete 0x11#8 .ok (forUpTo ccXorByte s.len.toNat s))) : Leaves P (execCcXor s) :=
  leaves_ite (leaves_endWith (hstop _))
    (leaves_ite (leaves_endWith (hstop _)) (leaves_ite (leaves_endWith (hstop _)) (leaves_endWith hrun)))

/-- `XS_XOR` ends at a check or after its loop (R231). -/
theorem execXsXor_leaves {s : State} (hstop : ∀ c, P (complete 0x41#8 c s))
    (hrun : P (complete 0x41#8 .ok (forUpTo xsXorByte s.len.toNat s))) : Leaves P (execXsXor s) :=
  leaves_ite (leaves_endWith (hstop _)) (leaves_ite (leaves_endWith (hstop _)) (leaves_endWith hrun))

/-- `PL_VERIFY` ends at a check, on a match or on a mismatch (R191). -/
theorem execPlVerify_leaves {s : State} (hstate : P (complete 0x23#8 .eState s)) (htaglen : P (complete 0x23#8 .eTaglen s))
    (hmatch : P (complete 0x23#8 .ok { s with
      auth := { ok := true, fail := false }, cc := if s.pl.link = true then { s.cc with gate := false } else s.cc }))
    (hmismatch : P (complete 0x23#8 .eAuth { s with
      pl := PL.zero, tag := Vector.replicate 4 0, auth := { ok := false, fail := true },
      cc := if s.pl.link = true then CC.zero else s.cc })) : Leaves P (execPlVerify s) := by
  refine leaves_ite (leaves_endWith hstate) (leaves_ite (leaves_endWith htaglen)
    (leaves_ite (leaves_endWith ?_) (leaves_endWith ?_)))
  · convert hmatch using 2; split <;> rfl
  · convert hmismatch using 2; split <;> rfl

end

/-! ### The mask of `ZEROIZE` (46_system.md R281) -/

/-- What the mask of `ZEROIZE` selects, field by field (R281). -/
theorem zeroizeMask_eq (arg : Byte) (s : State) :
    zeroizeMask arg s = { s with
      cc := if argMaskBit arg 0 then CC.zero else s.cc
      pl := if argMaskBit arg 1 then PL.zero else if argMaskBit arg 0 then { s.pl with link := false } else s.pl
      tag := if argMaskBit arg 1 then Vector.replicate 4 0 else s.tag
      auth := if argMaskBit arg 1 then Auth.zero else s.auth
      b2 := if argMaskBit arg 2 then B2.zero else s.b2
      digest := if argMaskBit arg 2 then Vector.replicate 16 0 else s.digest
      xs := if argMaskBit arg 3 then XS.zero else s.xs
      key := if argMaskBit arg 4 then Vector.replicate 16 0 else s.key
      nonce := if argMaskBit arg 4 then Vector.replicate 6 0 else s.nonce
      xtag := if argMaskBit arg 4 then Vector.replicate 4 0 else s.xtag
      buf := if argMaskBit arg 4 then Vector.replicate 128 0 else s.buf
      len := if argMaskBit arg 4 then 0 else s.len
      klen := if argMaskBit arg 4 then 0 else s.klen
      nlen := if argMaskBit arg 4 then 0 else s.nlen
      outlen := if argMaskBit arg 4 then 0 else s.outlen
      xtlen := if argMaskBit arg 4 then 0 else s.xtlen
      ctr := if argMaskBit arg 4 then 0 else s.ctr } := by
  unfold zeroizeMask
  split_ifs <;> rfl

theorem ite_maskBit_of_clear {α : Type} {arg : Byte} {k : Nat} (h : arg.getLsbD k = false) (a b : α) :
    (if argMaskBit arg k = true then a else b) = b := if_neg (ne_true_of_eq_false h)

/-- What `ZEROIZE` leaves alone where a mask bit is clear. `ZeroizeCC` writes `pl.link` too (R282). -/
def MaskFrame (arg : Byte) (s t : State) : Prop :=
  (arg.getLsbD 0 = false → t.cc = s.cc) ∧
  (arg.getLsbD 1 = false → t.tag = s.tag ∧ t.auth = s.auth ∧ t.pl = { s.pl with link := t.pl.link }) ∧
  (arg.getLsbD 0 = false → arg.getLsbD 1 = false → t.pl = s.pl) ∧
  (arg.getLsbD 2 = false → t.b2 = s.b2 ∧ t.digest = s.digest) ∧
  (arg.getLsbD 3 = false → t.xs = s.xs) ∧
  (arg.getLsbD 4 = false → t.key = s.key ∧ t.nonce = s.nonce ∧ t.xtag = s.xtag ∧ t.buf = s.buf ∧ t.len = s.len ∧
    t.klen = s.klen ∧ t.nlen = s.nlen ∧ t.outlen = s.outlen ∧ t.xtlen = s.xtlen ∧ t.ctr = s.ctr)

theorem maskFrame_zeroizeMask (arg : Byte) (s : State) : MaskFrame arg s (zeroizeMask arg s) := by
  rw [zeroizeMask_eq]
  refine ⟨fun h0 => ite_maskBit_of_clear h0 .., fun h1 => ?_, fun h0 h1 => ?_, fun h2 => ?_,
    fun h3 => ite_maskBit_of_clear h3 .., fun h4 => ?_⟩
  · simp only [ite_maskBit_of_clear h1, true_and]
    split <;> rfl
  · simp only [ite_maskBit_of_clear h1, ite_maskBit_of_clear h0]
  · simp only [ite_maskBit_of_clear h2, and_self]
  · simp only [ite_maskBit_of_clear h4, and_self]

theorem execZeroize_maskFrame (arg : Byte) (s : State) : Leaves (MaskFrame arg s) (execZeroize arg s) :=
  leaves_ite (leaves_endWith (by simp [MaskFrame])) (leaves_endWith (maskFrame_zeroizeMask arg s))

/-! ### The state a command does not write (R102) -/

/-- `RESULT` and `STICKY`, which every completion may write (R290), blanked. -/
def blankResult (s : State) : State := { s with code := .ok, lastop := 0, sticky := 0 }

/-- The state with what the writes column of R102 gives the command blanked. Of a context that is written in part, the
part is blanked: the counter and the block buffer of a stream cipher, the accumulator and the leftover bytes of
`PL_UPDATE`, the chaining value, the counter and the buffer of `B2_UPDATE`. Of `ZEROIZE`, which may select the whole
device state, the mask is not looked at here: `MaskFrame` is its frame. -/
def unwritten : Instr → State → State
  | .nop, s => blankResult s
  | .zeroize _, s => { State.reset with pending := s.pending, response := s.response }
  | .ccInit, s => { blankResult s with key := Vector.replicate 16 0, cc := CC.zero, pl := { s.pl with link := false } }
  | .ccXor, s => { blankResult s with
      buf := Vector.replicate 128 0
      cc := { s.cc with st := s.cc.st.set 12 0, blk := Vector.replicate 64 0, avail := 0 } }
  | .ccPolykey _, s => { blankResult s with
      pl := PL.zero, tag := Vector.replicate 4 0, auth := Auth.zero
      cc := { s.cc with gate := false, st := s.cc.st.set 12 0, blk := Vector.replicate 64 0, avail := 0 } }
  | .plInit, s => { blankResult s with
      key := Vector.replicate 16 0, pl := PL.zero, tag := Vector.replicate 4 0, auth := Auth.zero }
  | .plUpdate, s => { blankResult s with pl := { s.pl with h := 0, lbuf := Vector.replicate 16 0, lfill := 0 } }
  | .plFinish, s => { blankResult s with pl := PL.zero, tag := Vector.replicate 4 0, auth := Auth.zero }
  | .plVerify, s => { blankResult s with
      cc := CC.zero, pl := PL.zero, tag := Vector.replicate 4 0, auth := Auth.zero }
  | .b2Init, s => { blankResult s with
      key := Vector.replicate 16 0, b2 := B2.zero, digest := Vector.replicate 16 0 }
  | .b2Update, s => { blankResult s with
      b2 := { s.b2 with h := Vector.replicate 8 0, t := 0, buf := Vector.replicate 128 0, fill := 0 } }
  | .b2Final, s => { blankResult s with b2 := B2.zero, digest := Vector.replicate 16 0 }
  | .xsInit, s => { blankResult s with key := Vector.replicate 16 0, xs := XS.zero }
  | .xsXor, s => { blankResult s with
      buf := Vector.replicate 128 0
      xs := { s.xs with st := (s.xs.st.set 8 0).set 9 0, blk := Vector.replicate 64 0, avail := 0 } }

/-- One pass of `CC_XOR` writes what the command writes (R161, R164). -/
theorem unwritten_ccXorByte (i : Nat) (s : State) : unwritten .ccXor (ccXorByte i s) = unwritten .ccXor s := by
  by_cases h : s.cc.avail = 0
  · simp only [ccXorByte, ccRefill_of_spent h, unwritten, ccNextBlock_cc, setBufB_cc, Vector.set_set]
    rfl
  · simp only [ccXorByte, ccRefill_of_left h]
    rfl

theorem set_carry_pair (st : Vector Word 16) (a b : Word) :
    (((st.set 8 a).set 9 b).set 8 0).set 9 0 = (st.set 8 0).set 9 0 := by
  rw [Vector.set_comm b 0 (by decide), Vector.set_set, Vector.set_set]

/-- One pass of `XS_XOR` writes what the command writes (R231, R236). -/
theorem unwritten_xsXorByte (i : Nat) (s : State) : unwritten .xsXor (xsXorByte i s) = unwritten .xsXor s := by
  by_cases h : s.xs.avail = 0
  · simp only [xsXorByte, xsRefill_of_spent h, unwritten, saNextBlock_xs, setBufB_xs, set_carry_pair]
    rfl
  · simp only [xsXorByte, xsRefill_of_left h]
    rfl

theorem unwritten_polyAbsorb (b : Byte) (s : State) :
    unwritten .plUpdate { s with pl := polyAbsorb b s.pl } = unwritten .plUpdate s := by
  simp only [unwritten, polyAbsorb_valid, polyAbsorb_done, polyAbsorb_link, polyAbsorb_r, polyAbsorb_pad]
  rfl

theorem unwritten_b2Absorb (b : Byte) (s : State) :
    unwritten .b2Update { s with b2 := b2Absorb b s.b2 } = unwritten .b2Update s := by
  simp only [unwritten, b2Absorb_valid, b2Absorb_done, b2Absorb_outlen]
  rfl

theorem unwritten_zeroizeMask (arg : Byte) (s : State) :
    unwritten (.zeroize arg) (complete 0x01#8 .ok (zeroizeMask arg s)) = unwritten (.zeroize arg) s := by
  rw [zeroizeMask_eq]
  rfl

/-- The frame of every command, on every path: what it does not write is as it was. -/
theorem exec_unwritten (i : Instr) (s : State) : Leaves (fun t => unwritten i t = unwritten i s) (exec i s) := by
  cases i with
  | nop => exact leaves_endWith rfl
  | zeroize arg => exact leaves_ite (leaves_endWith rfl) (leaves_endWith (unwritten_zeroizeMask arg s))
  | ccInit => exact leaves_ite (leaves_endWith rfl) (leaves_ite (leaves_endWith rfl) (leaves_endWith rfl))
  | ccXor =>
    exact execCcXor_leaves (fun _ => rfl) (forUpTo_keeps (unwritten .ccXor) ccXorByte unwritten_ccXorByte _ s)
  | ccPolykey arg =>
    refine leaves_ite (leaves_endWith rfl) (leaves_ite (leaves_endWith rfl) (leaves_endWith ?_))
    simp only [unwritten, complete_cc, Vector.set_set]
    rfl
  | plInit => exact leaves_ite (leaves_endWith rfl) (leaves_endWith rfl)
  | plUpdate =>
    exact leaves_ite (leaves_endWith rfl) (leaves_ite (leaves_endWith rfl)
      (leaves_endWith (forUpTo_keeps (unwritten .plUpdate) _ (fun i u => unwritten_polyAbsorb (bufB u i) u) _ s)))
  | plFinish => exact leaves_ite (leaves_endWith rfl) (leaves_endWith rfl)
  | plVerify => exact execPlVerify_leaves rfl rfl rfl rfl
  | b2Init => exact leaves_ite (leaves_endWith rfl) (leaves_ite (leaves_endWith rfl) (leaves_endWith rfl))
  | b2Update =>
    exact leaves_ite (leaves_endWith rfl) (leaves_ite (leaves_endWith rfl)
      (leaves_endWith (forUpTo_keeps (unwritten .b2Update) _ (fun i u => unwritten_b2Absorb (bufB u i) u) _ s)))
  | b2Final => exact leaves_ite (leaves_endWith rfl) (leaves_endWith rfl)
  | xsInit => exact leaves_ite (leaves_endWith rfl) (leaves_ite (leaves_endWith rfl) (leaves_endWith rfl))
  | xsXor =>
    exact execXsXor_leaves (fun _ => rfl) (forUpTo_keeps (unwritten .xsXor) xsXorByte unwritten_xsXorByte _ s)

/-- What is read of the state a command does not write, the command keeps. -/
theorem exec_keeps {β : Type} {p : State → β} {i : Instr} (hp : ∀ u, p (unwritten i u) = p u) {s t : State}
    (h : exec i s = .next t) : p t = p s := by
  rw [← hp t, exec_unwritten i s t h, hp s]

/-! ### The frame, one piece of state at a time -/

section
variable {i : Instr} {s t : State}

/-- The staging registers but `KEY` and `BUF`, and the model's own view of the bus. -/
def staging (s : State) :
    Byte × Byte × Byte × Byte × Byte × Word × Vector Word 6 × Vector Word 4 × List HostEvent × Response :=
  (s.len, s.klen, s.nlen, s.outlen, s.xtlen, s.ctr, s.nonce, s.xtag, s.pending, s.response)

theorem staging_of_exec (hz : ∀ arg, i ≠ .zeroize arg) (h : exec i s = .next t) : staging t = staging s := by
  refine exec_keeps (fun u => ?_) h
  cases i with
  | zeroize arg => exact absurd rfl (hz arg)
  | _ => rfl

theorem buf_of_exec (hz : ∀ arg, i ≠ .zeroize arg) (hi : i ∉ [Instr.ccXor, Instr.xsXor]) (h : exec i s = .next t) :
    t.buf = s.buf := by
  refine exec_keeps (p := State.buf) (fun u => ?_) h
  cases i with
  | zeroize arg => exact absurd rfl (hz arg)
  | ccXor | xsXor => exact absurd (by decide) hi
  | _ => rfl

theorem cc_of_exec (hz : ∀ arg, i ≠ .zeroize arg) (hi : i ∉ [Instr.ccInit, Instr.ccXor, Instr.plVerify])
    (hp : ∀ arg, i ≠ .ccPolykey arg) (h : exec i s = .next t) : t.cc = s.cc := by
  refine exec_keeps (p := State.cc) (fun u => ?_) h
  cases i with
  | zeroize arg => exact absurd rfl (hz arg)
  | ccPolykey arg => exact absurd rfl (hp arg)
  | ccInit | ccXor | plVerify => exact absurd (by decide) hi
  | _ => rfl

theorem pl_of_exec (hz : ∀ arg, i ≠ .zeroize arg)
    (hi : i ∉ [Instr.ccInit, Instr.plInit, Instr.plUpdate, Instr.plFinish, Instr.plVerify])
    (hp : ∀ arg, i ≠ .ccPolykey arg) (h : exec i s = .next t) : t.pl = s.pl := by
  refine exec_keeps (p := State.pl) (fun u => ?_) h
  cases i with
  | zeroize arg => exact absurd rfl (hz arg)
  | ccPolykey arg => exact absurd rfl (hp arg)
  | ccInit | plInit | plUpdate | plFinish | plVerify => exact absurd (by decide) hi
  | _ => rfl

/-- `TAG` and the authentication flags are written together. -/
theorem tag_auth_of_exec (hz : ∀ arg, i ≠ .zeroize arg) (hi : i ∉ [Instr.plInit, Instr.plFinish, Instr.plVerify])
    (hp : ∀ arg, i ≠ .ccPolykey arg) (h : exec i s = .next t) : t.tag = s.tag ∧ t.auth = s.auth := by
  refine Prod.mk.injEq .. ▸ exec_keeps (p := fun u => (u.tag, u.auth)) (fun u => ?_) h
  cases i with
  | zeroize arg => exact absurd rfl (hz arg)
  | ccPolykey arg => exact absurd rfl (hp arg)
  | plInit | plFinish | plVerify => exact absurd (by decide) hi
  | _ => rfl

theorem b2_of_exec (hz : ∀ arg, i ≠ .zeroize arg) (hi : i ∉ [Instr.b2Init, Instr.b2Update, Instr.b2Final])
    (h : exec i s = .next t) : t.b2 = s.b2 := by
  refine exec_keeps (p := State.b2) (fun u => ?_) h
  cases i with
  | zeroize arg => exact absurd rfl (hz arg)
  | b2Init | b2Update | b2Final => exact absurd (by decide) hi
  | _ => rfl

theorem digest_of_exec (hz : ∀ arg, i ≠ .zeroize arg) (hi : i ∉ [Instr.b2Init, Instr.b2Final])
    (h : exec i s = .next t) : t.digest = s.digest := by
  refine exec_keeps (p := State.digest) (fun u => ?_) h
  cases i with
  | zeroize arg => exact absurd rfl (hz arg)
  | b2Init | b2Final => exact absurd (by decide) hi
  | _ => rfl

theorem xs_of_exec (hz : ∀ arg, i ≠ .zeroize arg) (hi : i ∉ [Instr.xsInit, Instr.xsXor]) (h : exec i s = .next t) :
    t.xs = s.xs := by
  refine exec_keeps (p := State.xs) (fun u => ?_) h
  cases i with
  | zeroize arg => exact absurd rfl (hz arg)
  | xsInit | xsXor => exact absurd (by decide) hi
  | _ => rfl

/-! ### Contexts that are written in part -/

theorem getElem_set_of_ne {st : Vector Word 16} {x : Word} {j k : Fin 16} (hj : j ≠ k) : (st.set k x)[j] = st[j] :=
  Vector.getElem_set_ne k.isLt j.isLt (Fin.val_ne_of_ne hj).symm

/-- `CC_XOR` and `CC_POLYKEY` write of `cc.st` the block counter only (R161, R210). -/
theorem cc_valid_st_of_exec (hi : i = .ccXor ∨ ∃ arg, i = .ccPolykey arg) (h : exec i s = .next t) :
    t.cc.valid = s.cc.valid ∧ ∀ j : Fin 16, j ≠ 12 → t.cc.st[j] = s.cc.st[j] := by
  obtain rfl | ⟨arg, rfl⟩ := hi <;>
    exact ⟨exec_keeps (p := (·.cc.valid)) (fun _ => rfl) h,
      fun j hj => exec_keeps (p := (·.cc.st[j])) (fun _ => getElem_set_of_ne hj) h⟩

/-- `XS_XOR` writes of `xs.st` the two words of the block counter only (R231). -/
theorem xs_valid_st_of_execXsXor (h : exec .xsXor s = .next t) :
    t.xs.valid = s.xs.valid ∧ ∀ j : Fin 16, j ≠ 8 → j ≠ 9 → t.xs.st[j] = s.xs.st[j] := by
  refine ⟨exec_keeps (p := (·.xs.valid)) (fun _ => rfl) h, fun j h8 h9 => ?_⟩
  refine exec_keeps (p := (·.xs.st[j])) (fun u => ?_) h
  exact (getElem_set_of_ne h9).trans (getElem_set_of_ne h8)

theorem pl_of_execPlUpdate (h : exec .plUpdate s = .next t) :
    t.pl = { s.pl with h := t.pl.h, lbuf := t.pl.lbuf, lfill := t.pl.lfill } :=
  congrArg (fun u => { u.pl with h := t.pl.h, lbuf := t.pl.lbuf, lfill := t.pl.lfill }) (exec_unwritten _ s t h)

theorem b2_of_execB2Update (h : exec .b2Update s = .next t) :
    t.b2 = { s.b2 with h := t.b2.h, t := t.b2.t, buf := t.b2.buf, fill := t.b2.fill } :=
  congrArg (fun u => { u.b2 with h := t.b2.h, t := t.b2.t, buf := t.b2.buf, fill := t.b2.fill })
    (exec_unwritten _ s t h)

/-- `CC_INIT` drops the link on every path, errors included (R160). -/
theorem pl_of_execCcInit (h : exec .ccInit s = .next t) : t.pl = { s.pl with link := false } :=
  leaves_ite (P := fun t => t.pl = { s.pl with link := false }) (leaves_endWith rfl)
    (leaves_ite (leaves_endWith rfl) (leaves_endWith rfl)) t h

/-! ### `BUF` from `LEN` on (10_state.md R40) -/

/-- Passes that each write the byte of their own number leave the bytes after the last one. -/
theorem bufB_forUpTo {body : Nat → State → State} (hbody : ∀ i u j, i ≠ j → bufB (body i u) j = bufB u j) {n j : Nat}
    (hj : n ≤ j) (s : State) : bufB (forUpTo body n s) j = bufB s j := by
  induction n with
  | zero => rfl
  | succ n ih => rw [forUpTo_succ, hbody n _ j (by omega), ih (by omega)]

theorem bufB_ccXorByte {i j : Nat} (hij : i ≠ j) (u : State) : bufB (ccXorByte i u) j = bufB u j := by
  rw [bufB, ccXorByte_buf]
  exact (bufB_setBufB u i j _).trans (if_neg fun h => hij h.1)

theorem bufB_xsXorByte {i j : Nat} (hij : i ≠ j) (u : State) : bufB (xsXorByte i u) j = bufB u j := by
  rw [bufB, xsXorByte_buf]
  exact (bufB_setBufB u i j _).trans (if_neg fun h => hij h.1)

theorem bufB_of_streamXor (hi : i ∈ [Instr.ccXor, Instr.xsXor]) (h : exec i s = .next t) {j : Nat}
    (hj : s.len.toNat ≤ j) : bufB t j = bufB s j := by
  simp only [List.mem_cons, List.not_mem_nil, or_false] at hi
  obtain rfl | rfl := hi
  · exact execCcXor_leaves (P := fun t => bufB t j = bufB s j) (fun _ => rfl)
      (bufB_forUpTo (fun _ u _ hij => bufB_ccXorByte hij u) hj s) t h
  · exact execXsXor_leaves (P := fun t => bufB t j = bufB s j) (fun _ => rfl)
      (bufB_forUpTo (fun _ u _ hij => bufB_xsXorByte hij u) hj s) t h

/-! ### The wrap bits of `STICKY` (10_state.md R25) -/

theorem ccWrap_of_exec (hi : i ≠ .ccXor) (h : exec i s = .next t) : t.sticky.getLsbD 4 = s.sticky.getLsbD 4 := by
  cases exec_sticky h with
  | code _ hsticky => rw [hsticky, BitVec.getLsbD_or, codeSticky_high _ 4 (by decide), Bool.or_false]
  | ccWrap => exact absurd rfl hi
  | xsWrap _ _ hsticky => rw [hsticky, BitVec.getLsbD_or]; exact Bool.or_false _

theorem xsWrap_of_exec (hi : i ≠ .xsXor) (h : exec i s = .next t) : t.sticky.getLsbD 5 = s.sticky.getLsbD 5 := by
  cases exec_sticky h with
  | code _ hsticky => rw [hsticky, BitVec.getLsbD_or, codeSticky_high _ 5 (by decide), Bool.or_false]
  | ccWrap _ _ hsticky => rw [hsticky, BitVec.getLsbD_or]; exact Bool.or_false _
  | xsWrap => exact absurd rfl hi

/-! ### `PL_VERIFY` by its outcome (42_poly1305.md R191, 43_aead.md R211, R212) -/

theorem cc_of_unlinked_verify (hlink : s.pl.link = false) (h : exec .plVerify s = .next t) : t.cc = s.cc :=
  execPlVerify_leaves (P := fun t => t.cc = s.cc) rfl rfl (by simp [hlink]) (by simp [hlink]) t h

/-- A match opens the gate at most. -/
theorem frame_of_verify_match (h : exec .plVerify s = .next t) :
    t.code = .ok → t.cc = { s.cc with gate := t.cc.gate } ∧ t.pl = s.pl ∧ t.tag = s.tag :=
  execPlVerify_leaves
    (P := fun t => t.code = .ok → t.cc = { s.cc with gate := t.cc.gate } ∧ t.pl = s.pl ∧ t.tag = s.tag)
    (fun h => nomatch h) (fun h => nomatch h) (fun _ => ⟨by by_cases hl : s.pl.link = true <;> simp [hl], rfl, rfl⟩)
    (fun h => nomatch h) t h

/-- A `PL_VERIFY` that compares nothing writes nothing. -/
theorem frame_of_verify_refused (h : exec .plVerify s = .next t) :
    t.code ≠ .ok → t.code ≠ .eAuth → t.cc = s.cc ∧ t.pl = s.pl ∧ t.tag = s.tag ∧ t.auth = s.auth :=
  execPlVerify_leaves
    (P := fun t => t.code ≠ .ok → t.code ≠ .eAuth → t.cc = s.cc ∧ t.pl = s.pl ∧ t.tag = s.tag ∧ t.auth = s.auth)
    (fun _ _ => ⟨rfl, rfl, rfl, rfl⟩) (fun _ _ => ⟨rfl, rfl, rfl, rfl⟩) (fun h => absurd rfl h)
    (fun _ h => absurd rfl h) t h

end

/-! ### The obligation -/

/-- Settles O20: the frame of `ZEROIZE` by its mask, of the others by `unwritten`. -/
theorem commandWritesOnlyItsState : Obligations.CommandWritesOnlyItsState := by
  unfold Obligations.CommandWritesOnlyItsState
  refine ⟨fun arg s t h => ⟨⟨exec_keeps (fun _ => rfl) h, exec_keeps (fun _ => rfl) h, ccWrap_of_exec (by simp) h,
    xsWrap_of_exec (by simp) h⟩, execZeroize_maskFrame arg s t h⟩, fun i s t hz h => ?_⟩
  refine ⟨?_, fun hi => key_of_exec_otherCommand hi hz h, fun hi => buf_of_exec hz hi h,
    fun hi j hj => bufB_of_streamXor hi h hj, fun hi hp => cc_of_exec hz hi hp h, fun hi => cc_valid_st_of_exec hi h,
    ?_, fun hi => ccWrap_of_exec hi h, fun hi => xsWrap_of_exec hi h, ?_, ?_, ?_,
    fun hi hp => pl_of_exec hz hi hp h, ?_, ?_, fun hi hp => tag_auth_of_exec hz hi hp h, fun hi => b2_of_exec hz hi h,
    ?_, fun hi => digest_of_exec hz hi h, fun hi => xs_of_exec hz hi h, ?_⟩
  · simpa only [staging, Prod.mk.injEq] using staging_of_exec hz h
  all_goals rintro rfl
  · exact exec_keeps (p := (·.cc.gate)) (fun _ => rfl) h
  · exact fun hlink => cc_of_unlinked_verify hlink h
  · exact frame_of_verify_match h
  · exact frame_of_verify_refused h
  · exact pl_of_execCcInit h
  · exact pl_of_execPlUpdate h
  · exact b2_of_execB2Update h
  · exact xs_valid_st_of_execXsXor h

end Sys2Proof.Proofs
end

section
/-! The integer laws of 40_primitives.md: additions, rotations, little-endian packing (R130 to R136), and the 64-bit
operations on pairs of 32-bit halves (R137). -/

namespace Sys2Proof.Proofs

open Sys2Proof.Machine

theorem toNat_append_eq_add {m n : Nat} (x : BitVec m) (y : BitVec n) : (x ++ y).toNat = x.toNat * 2 ^ n + y.toNat := by
  rw [BitVec.toNat_append, ← Nat.shiftLeft_add_eq_or_of_lt y.isLt, Nat.shiftLeft_eq]

/-! ### Additions (R130, R135) -/

theorem add32_toNat (a b : Word) : (add32 a b).toNat = (a.toNat + b.toNat) % 2 ^ 32 := BitVec.toNat_add ..

theorem add64_toNat (a b : DWord) : (add64 a b).toNat = (a.toNat + b.toNat) % 2 ^ 64 := BitVec.toNat_add ..

/-- Settles O58: the laws on numbers, and the corner cases computed. -/
theorem wordAdditionWraps : Obligations.WordAdditionWraps :=
  ⟨add32_toNat, add64_toNat, by decide, by decide, by decide⟩

/-! ### Rotations (R131, R136) -/

/-- A left shift and a right shift joined, as the number R131 and R136 write: the right shift needs no truncation. -/
theorem toNat_shiftLeft_or_ushiftRight {w : Nat} (x : BitVec w) (m n : Nat) :
    ((x <<< m) ||| (x >>> n)).toNat = ((x.toNat <<< m) ||| (x.toNat >>> n)) % 2 ^ w := by
  have hright : x.toNat >>> n < 2 ^ w := (Nat.shiftRight_le _ _).trans_lt x.isLt
  rw [BitVec.toNat_or, BitVec.toNat_shiftLeft, BitVec.toNat_ushiftRight, Nat.or_mod_two_pow, Nat.mod_eq_of_lt hright]

theorem rotl32_toNat (x : Word) (n : Nat) :
    (rotl32 x n).toNat = ((x.toNat <<< n) ||| (x.toNat >>> (32 - n))) % 2 ^ 32 :=
  toNat_shiftLeft_or_ushiftRight x n (32 - n)

theorem rotr64_toNat (x : DWord) (n : Nat) :
    (rotr64 x n).toNat = ((x.toNat >>> n) ||| (x.toNat <<< (64 - n))) % 2 ^ 64 := by
  rw [rotr64, BitVec.or_comm, toNat_shiftLeft_or_ushiftRight, Nat.or_comm]

/-- Bit `i` after the rotation: the low `n` bits come from the top. -/
theorem rotl32_getLsbD (x : Word) {n : Nat} (hn : n < 32) {i : Nat} (hi : i < 32) :
    (rotl32 x n).getLsbD i = if i < n then x.getLsbD (32 - n + i) else x.getLsbD (i - n) := by
  have hrot : rotl32 x n = x.rotateLeft n := by rw [BitVec.rotateLeft_def, Nat.mod_eq_of_lt hn, rotl32]
  rw [hrot, BitVec.getLsbD_rotateLeft, Nat.mod_eq_of_lt hn]
  by_cases h : i < n <;> simp [h, hi]

/-- Bit `i` after the rotation: the high `n` bits come from the bottom. -/
theorem rotr64_getLsbD (x : DWord) {n : Nat} (hn : n < 64) {i : Nat} (hi : i < 64) :
    (rotr64 x n).getLsbD i = if i < 64 - n then x.getLsbD (n + i) else x.getLsbD (i - (64 - n)) := by
  have hrot : rotr64 x n = x.rotateRight n := by rw [BitVec.rotateRight_def, Nat.mod_eq_of_lt hn, rotr64]
  rw [hrot, BitVec.getLsbD_rotateRight, Nat.mod_eq_of_lt hn]
  by_cases h : i < 64 - n <;> simp [h, hi]

/-- A bit either stays in range when it moves up by `n`, or wraps to the bottom. -/
theorem rotl32_moves_bit (x : Word) {n : Nat} (hn : n < 32) {i : Nat} (hi : i < 32) :
    (rotl32 x n).getLsbD ((i + n) % 32) = x.getLsbD i := by
  rw [rotl32_getLsbD x hn (Nat.mod_lt _ (by decide))]
  by_cases hwrap : i + n < 32
  · rw [Nat.mod_eq_of_lt hwrap, if_neg (by omega), Nat.add_sub_cancel]
  · rw [show (i + n) % 32 = i + n - 32 by omega, if_pos (by omega), show 32 - n + (i + n - 32) = i by omega]

/-- A bit either stays in range when it moves down by `n`, or wraps to the top. -/
theorem rotr64_moves_bit (x : DWord) {n : Nat} (hn : n < 64) {i : Nat} (hi : i < 64) :
    (rotr64 x n).getLsbD ((i + 64 - n) % 64) = x.getLsbD i := by
  rw [rotr64_getLsbD x hn (Nat.mod_lt _ (by decide))]
  by_cases hwrap : i < n
  · rw [show (i + 64 - n) % 64 = i + 64 - n by omega, if_neg (by omega), show i + 64 - n - (64 - n) = i by omega]
  · rw [show (i + 64 - n) % 64 = i - n by omega, if_pos (by omega), show n + (i - n) = i by omega]

/-- Settles O59, from the two formulas and the movement of one bit. -/
theorem rotationsMoveBits : Obligations.RotationsMoveBits :=
  ⟨fun x n _ hn => ⟨rotl32_toNat x n, fun _ => rotl32_moves_bit x (by omega)⟩,
    fun x n _ hn => ⟨rotr64_toNat x n, fun _ => rotr64_moves_bit x (by omega)⟩⟩

/-! ### Words and bytes (R132, R133) -/

theorem le32_toNat (a b c d : Byte) :
    (le32 a b c d).toNat = a.toNat + 2 ^ 8 * b.toNat + 2 ^ 16 * c.toNat + 2 ^ 24 * d.toNat := by
  simp only [le32, toNat_append_eq_add]
  ring

theorem st32_le32 (a b c d : Byte) : st32 (le32 a b c d) = [a, b, c, d] := by
  have byte (j : Nat) (hj : j < 4) : wordByte (le32 a b c d) j = [a, b, c, d].getD j 0 :=
    wordByte_le32 (fun i => [a, b, c, d].getD i 0) hj
  rw [st32, byte 0 (by decide), byte 1 (by decide), byte 2 (by decide), byte 3 (by decide)]
  rfl

theorem le32_wordByte (w : Word) : le32 (wordByte w 0) (wordByte w 1) (wordByte w 2) (wordByte w 3) = w := by
  unfold le32 wordByte
  rw [BitVec.extractLsb'_append_extractLsb'_eq_extractLsb' (by decide),
    BitVec.extractLsb'_append_extractLsb'_eq_extractLsb' (by decide),
    BitVec.extractLsb'_append_extractLsb'_eq_extractLsb' (by decide)]
  exact BitVec.extractLsb'_eq_self

/-- The bytes of a 64-bit word are those of its two halves. -/
theorem le64_eq_append (a b c d e f g h : Byte) : le64 a b c d e f g h = le32 e f g h ++ le32 a b c d := by
  apply BitVec.eq_of_toNat_eq
  simp only [le64, le32, toNat_append_eq_add]
  ring

theorem le64_toNat (a b c d e f g h : Byte) :
    (le64 a b c d e f g h).toNat = (le32 a b c d).toNat + 2 ^ 32 * (le32 e f g h).toNat := by
  rw [le64_eq_append, toNat_append_eq_add, Nat.mul_comm, Nat.add_comm]

theorem st64_append (hi lo : Word) : st64 (hi ++ lo) = st32 lo ++ st32 hi := by
  have low {j : Nat} (hj : j < 4) : dwordByte (hi ++ lo) j = wordByte lo j :=
    BitVec.extractLsb'_append_eq_of_add_le (by omega)
  have high (j : Nat) : dwordByte (hi ++ lo) (4 + j) = wordByte hi j := by
    rw [dwordByte, wordByte, BitVec.extractLsb'_append_eq_of_le (by omega)]
    congr 1
    omega
  rw [st64, low (by decide), low (by decide), low (by decide), low (by decide), high 0, high 1, high 2, high 3]
  rfl

theorem st64_le64 (a b c d e f g h : Byte) : st64 (le64 a b c d e f g h) = [a, b, c, d, e, f, g, h] := by
  rw [le64_eq_append, st64_append, st32_le32, st32_le32]
  rfl

/-! ### Byte sequences of any length (R134) -/

theorem leint_eq_sum (bs : List Byte) :
    leint bs = ((List.range bs.length).map fun i => 2 ^ (8 * i) * (bs.getD i 0).toNat).sum := by
  induction bs with
  | nil => rfl
  | cons b bs ih =>
    have shift : (fun i => 2 ^ (8 * (i + 1)) * ((b :: bs).getD (i + 1) 0).toNat) =
        fun i => 2 ^ 8 * (2 ^ (8 * i) * (bs.getD i 0).toNat) := by
      funext i
      rw [List.getD_cons_succ]
      ring
    rw [leint, ih, List.length_cons, List.range_succ_eq_map, List.map_cons, List.sum_cons, List.map_map,
      Function.comp_def]
    simp only [Nat.succ_eq_add_one, shift, List.sum_map_mul_left]
    simp

theorem stint_length (n v : Nat) : (stint n v).length = n := by
  induction n generalizing v with
  | zero => rfl
  | succ n ih => rw [stint, List.length_cons, ih]

theorem stint_leint (bs : List Byte) : stint bs.length (leint bs) = bs := by
  induction bs with
  | nil => rfl
  | cons b bs ih =>
    have hb := b.isLt
    have hbyte : BitVec.ofNat 8 (b.toNat + 256 * leint bs) = b := by
      apply BitVec.eq_of_toNat_eq
      rw [BitVec.toNat_ofNat]
      omega
    rw [leint, List.length_cons, stint, hbyte, show (b.toNat + 256 * leint bs) / 256 = leint bs by omega, ih]

theorem leint_stint (n v : Nat) : leint (stint n v) = v % 2 ^ (8 * n) := by
  induction n generalizing v with
  | zero => simp [stint, leint, Nat.mod_one]
  | succ n ih =>
    rw [stint, leint, ih, BitVec.toNat_ofNat, show 2 ^ (8 * (n + 1)) = 256 * 2 ^ (8 * n) by ring, Nat.mod_mul]

/-- Byte `i` of a little-endian integer. -/
theorem leint_div_mod (bs : List Byte) (i : Nat) : leint bs / 2 ^ (8 * i) % 2 ^ 8 = (bs.getD i 0).toNat := by
  induction bs generalizing i with
  | nil => simp [leint]
  | cons b bs ih =>
    have hb := b.isLt
    cases i with
    | zero => simp only [leint, List.getD_cons_zero]; omega
    | succ i =>
      rw [List.getD_cons_succ, ← ih, leint, Nat.mul_succ, Nat.add_comm (8 * i), pow_add, ← Nat.div_div_eq_div_mul,
        show (b.toNat + 256 * leint bs) / 2 ^ 8 = leint bs by omega]

theorem leint_lt (bs : List Byte) : leint bs < 2 ^ (8 * bs.length) := by
  rw [← stint_leint bs, leint_stint, stint_length]
  exact Nat.mod_lt _ (Nat.two_pow_pos _)

theorem leint_take_lt {k : List Byte} {n : Nat} (hk : n ≤ k.length) : leint (k.take n) < 2 ^ (8 * n) := by
  simpa only [List.length_take_of_le hk] using leint_lt (k.take n)

/-- Settles O60: each packing by its sum, each unpacking by the byte it takes out. -/
theorem littleEndianPacking : Obligations.LittleEndianPacking :=
  ⟨fun a b c d => ⟨le32_toNat a b c d, st32_le32 a b c d⟩, le32_wordByte,
    fun a b c d e f g h => ⟨le64_toNat a b c d e f g h, st64_le64 a b c d e f g h⟩,
    fun bs => ⟨leint_eq_sum bs, stint_leint bs⟩, fun n v => ⟨stint_length n v, leint_stint n v⟩⟩

/-! ### 64-bit operations on 32-bit halves (R137) -/

theorem halvesVal_halvesOf (x : DWord) : halvesVal (halvesOf x) = x := by
  unfold halvesVal halvesOf
  rw [BitVec.extractLsb'_append_extractLsb'_eq_extractLsb' (by decide)]
  exact BitVec.extractLsb'_eq_self

theorem halvesVal_toNat (x : Halves) : (halvesVal x).toNat = x.hi.toNat * 2 ^ 32 + x.lo.toNat :=
  toNat_append_eq_add ..

theorem halvesVal_getLsbD (x : Halves) (i : Nat) :
    (halvesVal x).getLsbD i = if i < 32 then x.lo.getLsbD i else x.hi.getLsbD (i - 32) :=
  BitVec.getLsbD_append

theorem halvesVal_xor64Halves (a b : Halves) : halvesVal (xor64Halves a b) = halvesVal a ^^^ halvesVal b :=
  BitVec.xor_append.symm

/-- The carry out of the low halves is what the 64-bit addition carries over bit 32. -/
theorem halvesVal_add64Halves (a b : Halves) : halvesVal (add64Halves a b) = add64 (halvesVal a) (halvesVal b) := by
  apply BitVec.eq_of_toNat_eq
  simp only [add64_toNat, halvesVal_toNat, add64Halves, add32_toNat, BitVec.toNat_ofNat]
  omega

/-- Bit `i` of a half funnelled down by `n`: the high `n` bits come from the other half. -/
theorem funnel_getLsbD (x y : Word) {n : Nat} (hn : n ≤ 32) {i : Nat} (hi : i < 32) :
    ((x >>> n) ||| (y <<< (32 - n))).getLsbD i =
      if i < 32 - n then x.getLsbD (n + i) else y.getLsbD (i - (32 - n)) := by
  rw [BitVec.getLsbD_or, BitVec.getLsbD_ushiftRight, BitVec.getLsbD_shiftLeft]
  by_cases h : i < 32 - n
  · simp [h]
  · simp [h, hi, BitVec.getLsbD_of_ge x (n + i) (by omega)]

/-- Swapping the halves is the rotation by 32: each bit comes from the same place of the other half. -/
theorem halvesVal_rotr64Halves32 (x : Halves) : halvesVal (rotr64Halves32 x) = rotr64 (halvesVal x) 32 := by
  apply BitVec.eq_of_getLsbD_eq
  intro i hi
  rw [rotr64_getLsbD _ (by decide) hi, halvesVal_getLsbD, halvesVal_getLsbD, halvesVal_getLsbD, rotr64Halves32]
  by_cases hlow : i < 32
  · rw [if_pos hlow, if_pos hlow, if_neg (by omega), Nat.add_sub_cancel_left]
  · rw [if_neg hlow, if_neg hlow, if_pos (by omega)]

/-- In either half of the result, the bits that stay in a half and those that cross over. -/
theorem halvesVal_rotr64HalvesLow (x : Halves) {n : Nat} (hn : n < 32) :
    halvesVal (rotr64HalvesLow x n) = rotr64 (halvesVal x) n := by
  apply BitVec.eq_of_getLsbD_eq
  intro i hi
  rw [rotr64_getLsbD _ (by omega) hi, halvesVal_getLsbD, halvesVal_getLsbD, halvesVal_getLsbD, rotr64HalvesLow]
  by_cases hlow : i < 32
  · rw [if_pos hlow, funnel_getLsbD _ _ hn.le hlow, if_pos (show i < 64 - n by omega)]
    by_cases hstay : i < 32 - n
    · rw [if_pos hstay, if_pos (by omega)]
    · rw [if_neg hstay, if_neg (by omega), show n + i - 32 = i - (32 - n) by omega]
  · rw [if_neg hlow, funnel_getLsbD _ _ hn.le (by omega)]
    by_cases hstay : i < 64 - n
    · rw [if_pos (by omega), if_pos hstay, if_neg (by omega), show n + i - 32 = n + (i - 32) by omega]
    · rw [if_neg (by omega), if_neg hstay, if_pos (by omega), show i - 32 - (32 - n) = i - (64 - n) by omega]

theorem rotr64_rotr64 (x : DWord) {m n : Nat} (hmn : m + n < 64) : rotr64 (rotr64 x m) n = rotr64 x (m + n) := by
  apply BitVec.eq_of_getLsbD_eq
  intro i hi
  rw [rotr64_getLsbD _ (by omega) hi, rotr64_getLsbD x hmn hi]
  by_cases hwrap : i < 64 - n
  · rw [if_pos hwrap, rotr64_getLsbD x (by omega) (by omega), ← Nat.add_assoc]
    by_cases hstay : n + i < 64 - m
    · rw [if_pos hstay, if_pos (by omega)]
    · rw [if_neg hstay, if_neg (by omega), show n + i - (64 - m) = i - (64 - (m + n)) by omega]
  · rw [if_neg hwrap, rotr64_getLsbD x (by omega) (by omega), if_pos (by omega), if_neg (by omega),
      show m + (i - (64 - n)) = i - (64 - (m + n)) by omega]

/-- The rotation by 63 is the swap of the halves and a rotation by 31. -/
theorem rotr64Halves63_eq (x : Halves) : rotr64Halves63 x = rotr64HalvesLow (rotr64Halves32 x) 31 := by
  unfold rotr64Halves63 rotr64HalvesLow rotr64Halves32
  rw [BitVec.or_comm, BitVec.or_comm (x.lo <<< 1)]

theorem halvesVal_rotr64Halves63 (x : Halves) : halvesVal (rotr64Halves63 x) = rotr64 (halvesVal x) 63 := by
  rw [rotr64Halves63_eq, halvesVal_rotr64HalvesLow _ (by decide), halvesVal_rotr64Halves32,
    rotr64_rotr64 _ (by decide)]

/-- Settles O47, one operation after the other. -/
theorem halvesComputeWords : Obligations.HalvesComputeWords :=
  ⟨halvesVal_halvesOf, halvesVal_xor64Halves, halvesVal_add64Halves, halvesVal_rotr64Halves32,
    fun x _ _ hn => halvesVal_rotr64HalvesLow x hn, halvesVal_rotr64Halves63⟩

end Sys2Proof.Proofs
end

section
/-! The mixing functions of the three ciphers (40_primitives.md R139, R143, R154): each is a sequence of assignments to
named words, so it is local to those words, and local functions on disjoint words commute. -/

namespace Sys2Proof.Proofs

open Sys2Proof.Machine

/-! ### Functions local to some words -/

/-- `f` changes no word outside `S`, and what it leaves in `S` follows from the words of `S` alone. -/
structure LocalTo {α : Type} (S : List (Fin 16)) (f : Vector α 16 → Vector α 16) : Prop where
  keeps : ∀ v, ∀ k ∉ S, (f v)[k] = v[k]
  depends : ∀ v w, (∀ k ∈ S, v[k] = w[k]) → ∀ k ∈ S, (f v)[k] = (f w)[k]

/-- The assignment `v[p] <- g(v[p], v[q], v[r])`. -/
def assign {α : Type} (p q r : Fin 16) (g : α → α → α → α) (v : Vector α 16) : Vector α 16 := v.set p (g v[p] v[q] v[r])

section
variable {α : Type} {S : List (Fin 16)} {f g : Vector α 16 → Vector α 16}

theorem getElem_assign (p q r : Fin 16) (g : α → α → α → α) (v : Vector α 16) (k : Fin 16) :
    (assign p q r g v)[k] = if p = k then g v[p] v[q] v[r] else v[k] := by
  simp only [assign, Fin.getElem_fin, Vector.getElem_set, Fin.ext_iff]

theorem localTo_assign {p q r : Fin 16} (hp : p ∈ S) (hq : q ∈ S) (hr : r ∈ S) (g : α → α → α → α) :
    LocalTo S (assign p q r g) where
  keeps v k hk := by rw [getElem_assign, if_neg (ne_of_mem_of_not_mem hp hk)]
  depends v w h k hk := by rw [getElem_assign, getElem_assign, h p hp, h q hq, h r hr, h k hk]

theorem LocalTo.comp (hg : LocalTo S g) (hf : LocalTo S f) : LocalTo S (g ∘ f) where
  keeps v k hk := (hg.keeps _ k hk).trans (hf.keeps v k hk)
  depends v w h := hg.depends _ _ (hf.depends v w h)

/-- On disjoint words, each function finds its own words as if the other had not run. -/
theorem LocalTo.commute {T : List (Fin 16)} (hf : LocalTo S f) (hg : LocalTo T g) (hST : ∀ k ∈ S, k ∉ T)
    (v : Vector α 16) : g (f v) = f (g v) := by
  have onS (k : Fin 16) (hk : k ∈ S) : (g (f v))[k] = (f (g v))[k] := by
    rw [hg.keeps _ k (hST k hk)]
    exact hf.depends v (g v) (fun j hj => (hg.keeps v j (hST j hj)).symm) k hk
  have offS (k : Fin 16) (hk : k ∉ S) : (g (f v))[k] = (f (g v))[k] := by
    rw [hf.keeps _ k hk]
    by_cases hT : k ∈ T
    · exact hg.depends (f v) v (fun j hj => hf.keeps v j fun hS => hST j hS hj) k hT
    · rw [hg.keeps _ k hT, hg.keeps _ k hT, hf.keeps v k hk]
  ext i hi
  by_cases hS : (⟨i, hi⟩ : Fin 16) ∈ S
  · exact onS ⟨i, hi⟩ hS
  · exact offS ⟨i, hi⟩ hS

end

/-! ### The mixing functions as sequences of assignments -/

/-- `v[p] <- add32(v[p], v[q])` (R139). -/
def ccAdd (p q : Fin 16) : Vector Word 16 → Vector Word 16 := assign p q q fun x y _ => add32 x y

/-- `v[p] <- rotl32(v[p] ^ v[q], n)` (R139). -/
def ccXorRot (n : Nat) (p q : Fin 16) : Vector Word 16 → Vector Word 16 := assign p q q fun x y _ => rotl32 (x ^^^ y) n

/-- `v[p] <- v[p] ^ rotl32(add32(v[q], v[r]), n)` (R143). -/
def saXorRot (n : Nat) (p q r : Fin 16) : Vector Word 16 → Vector Word 16 :=
  assign p q r fun x y z => x ^^^ rotl32 (add32 y z) n

/-- `v[p] <- add64(add64(v[p], v[q]), m)` (R154). -/
def b2AddMessage (m : DWord) (p q : Fin 16) : Vector DWord 16 → Vector DWord 16 :=
  assign p q q fun x y _ => add64 (add64 x y) m

/-- `v[p] <- add64(v[p], v[q])` (R154). -/
def b2Add (p q : Fin 16) : Vector DWord 16 → Vector DWord 16 := assign p q q fun x y _ => add64 x y

/-- `v[p] <- rotr64(v[p] ^ v[q], n)` (R154). -/
def b2XorRot (n : Nat) (p q : Fin 16) : Vector DWord 16 → Vector DWord 16 :=
  assign p q q fun x y _ => rotr64 (x ^^^ y) n

theorem ccqr_eq_assignments (a b c d : Fin 16) :
    (ccqr · a b c d) = ccXorRot 7 b c ∘ ccAdd c d ∘ ccXorRot 8 d a ∘ ccAdd a b ∘
      ccXorRot 12 b c ∘ ccAdd c d ∘ ccXorRot 16 d a ∘ ccAdd a b := rfl

theorem saqr_eq_assignments (a b c d : Fin 16) :
    (saqr · a b c d) = saXorRot 18 a d c ∘ saXorRot 13 d c b ∘ saXorRot 9 c b a ∘ saXorRot 7 b a d := rfl

theorem b2G_eq_assignments (a b c d : Fin 16) (x y : DWord) :
    (b2G · a b c d x y) = b2XorRot 63 b c ∘ b2Add c d ∘ b2XorRot 16 d a ∘ b2AddMessage y a b ∘
      b2XorRot 24 b c ∘ b2Add c d ∘ b2XorRot 32 d a ∘ b2AddMessage x a b := rfl

theorem ccqr_localTo (a b c d : Fin 16) : LocalTo [a, b, c, d] (ccqr · a b c d) := by
  rw [ccqr_eq_assignments]
  refine .comp ?_ <| .comp ?_ <| .comp ?_ <| .comp ?_ <| .comp ?_ <| .comp ?_ <| .comp ?_ ?_
  all_goals exact localTo_assign (by simp) (by simp) (by simp) _

theorem saqr_localTo (a b c d : Fin 16) : LocalTo [a, b, c, d] (saqr · a b c d) := by
  rw [saqr_eq_assignments]
  refine .comp ?_ <| .comp ?_ <| .comp ?_ ?_
  all_goals exact localTo_assign (by simp) (by simp) (by simp) _

theorem b2G_localTo (a b c d : Fin 16) (x y : DWord) : LocalTo [a, b, c, d] (b2G · a b c d x y) := by
  rw [b2G_eq_assignments]
  refine .comp ?_ <| .comp ?_ <| .comp ?_ <| .comp ?_ <| .comp ?_ <| .comp ?_ <| .comp ?_ ?_
  all_goals exact localTo_assign (by simp) (by simp) (by simp) _

/-- Settles O28: the mixing functions are local to the four words. -/
theorem mixingTouchesFourWords : Obligations.MixingTouchesFourWords :=
  fun a b c d k hk => ⟨fun x => (ccqr_localTo a b c d).keeps x k hk, fun x => (saqr_localTo a b c d).keeps x k hk,
    fun v m n => (b2G_localTo a b c d m n).keeps v k hk⟩

/-- Settles O29: local functions on disjoint words commute. -/
theorem disjointMixingCommutes : Obligations.DisjointMixingCommutes :=
  fun a b c d e f g h hdisj =>
    ⟨(ccqr_localTo a b c d).commute (ccqr_localTo e f g h) hdisj,
      (saqr_localTo a b c d).commute (saqr_localTo e f g h) hdisj,
      fun v m n p q => (b2G_localTo a b c d m n).commute (b2G_localTo e f g h p q) hdisj v⟩

end Sys2Proof.Proofs
end

section
/-! The Poly1305 limb datapath (40_primitives.md R147 to R151, 42_poly1305.md R183, R187, R190): the value of the limbs
after each stage, modulo 2^130 − 5, and the widths that hold there. -/

namespace Sys2Proof.Proofs

open Sys2Proof.Machine

/-! ### Widths (R147, R148, R150) -/

/-- Every limb is below `b`. -/
structure LimbsBelow (b : Nat) (a : Limbs) : Prop where
  l0 : a.l0 < b
  l1 : a.l1 < b
  l2 : a.l2 < b
  l3 : a.l3 < b
  l4 : a.l4 < b

/-- The widths of the accumulator between two blocks: only limb 1 may exceed 26 bits, by the last carry (R150). -/
structure BetweenBlocks (a : Limbs) : Prop where
  l0 : a.l0 < 2 ^ 26
  l1 : a.l1 < 2 ^ 26 + 2 ^ 6
  l2 : a.l2 < 2 ^ 26
  l3 : a.l3 < 2 ^ 26
  l4 : a.l4 < 2 ^ 26

theorem limbsOf_below (v : Nat) : LimbsBelow (2 ^ 26) (limbsOf v) := by
  constructor <;> exact Nat.mod_lt _ (by decide)

theorem limbVal_limbsOf {v : Nat} (hv : v < 2 ^ 130) : limbVal (limbsOf v) = v := by
  simp only [limbVal, limbsOf, radix]
  omega

/-! ### The field adder (R148) -/

theorem limbVal_limbAdd (a b : Limbs) : limbVal (limbAdd a b) = limbVal a + limbVal b := by
  simp only [limbVal, limbAdd]
  ring

theorem limbAdd_below {a b : Limbs} (ha : BetweenBlocks a) (hb : LimbsBelow (2 ^ 26) b) :
    LimbsBelow (2 ^ 27 + 2 ^ 6) (limbAdd a b) := by
  obtain ⟨a0, a1, a2, a3, a4⟩ := ha
  obtain ⟨b0, b1, b2, b3, b4⟩ := hb
  constructor <;> simp only [limbAdd] <;> omega

/-! ### The modular multiplier (R149) -/

/-- The partial products `H_i·R_j` with `i + j ≥ 5`, over 2^130: the multiplier brings them in again 5 times at weight
2^(26(i + j − 5)) (R149). -/
def foldedProducts (a r : Limbs) : Nat :=
  (a.l1 * r.l4 + a.l2 * r.l3 + a.l3 * r.l2 + a.l4 * r.l1) + (a.l2 * r.l4 + a.l3 * r.l3 + a.l4 * r.l2) * 2 ^ 26 +
    (a.l3 * r.l4 + a.l4 * r.l3) * 2 ^ 52 + a.l4 * r.l4 * 2 ^ 78

/-- The multiplier's value is the product but for the fold 2^130 → 5. -/
theorem limbVal_limbMul (a r : Limbs) :
    limbVal (limbMul a r) + (2 ^ 130 - 5) * foldedProducts a r = limbVal a * limbVal r := by
  simp only [limbVal, limbMul, foldedProducts]
  ring

/-- One partial product of a multiplier whose operands are within the widths of R148 and R147. -/
theorem partialProduct_le {x y : Nat} (hx : x < 2 ^ 27 + 2 ^ 6) (hy : y < 2 ^ 26) :
    x * y ≤ (2 ^ 27 + 2 ^ 6) * 2 ^ 26 :=
  Nat.mul_le_mul hx.le hy.le

/-- A row of the multiplier holds five partial products, of which the folded ones count five times. -/
theorem limbMul_below {a r : Limbs} (ha : LimbsBelow (2 ^ 27 + 2 ^ 6) a) (hr : LimbsBelow (2 ^ 26) r) :
    LimbsBelow (2 ^ 58) (limbMul a r) := by
  obtain ⟨a0, a1, a2, a3, a4⟩ := ha
  obtain ⟨r0, r1, r2, r3, r4⟩ := hr
  constructor <;> simp only [limbMul, Nat.mul_left_comm _ 5]
  · linarith only [partialProduct_le a0 r0, partialProduct_le a1 r4, partialProduct_le a2 r3,
      partialProduct_le a3 r2, partialProduct_le a4 r1]
  · linarith only [partialProduct_le a0 r1, partialProduct_le a1 r0, partialProduct_le a2 r4,
      partialProduct_le a3 r3, partialProduct_le a4 r2]
  · linarith only [partialProduct_le a0 r2, partialProduct_le a1 r1, partialProduct_le a2 r0,
      partialProduct_le a3 r4, partialProduct_le a4 r3]
  · linarith only [partialProduct_le a0 r3, partialProduct_le a1 r2, partialProduct_le a2 r1,
      partialProduct_le a3 r0, partialProduct_le a4 r4]
  · linarith only [partialProduct_le a0 r4, partialProduct_le a1 r3, partialProduct_le a2 r2,
      partialProduct_le a3 r1, partialProduct_le a4 r0]

/-- Nothing is folded into the top row, so its carry out is small enough for the chain to stop in limb 1 (R150). -/
theorem limbMul_l4_lt {a r : Limbs} (ha : LimbsBelow (2 ^ 27 + 2 ^ 6) a) (hr : LimbsBelow (2 ^ 26) r) :
    (limbMul a r).l4 < 6 * 2 ^ 53 := by
  simp only [limbMul]
  linarith only [partialProduct_le ha.l0 hr.l4, partialProduct_le ha.l1 hr.l3, partialProduct_le ha.l2 hr.l2,
    partialProduct_le ha.l3 hr.l1, partialProduct_le ha.l4 hr.l0]

/-! ### The carry chain (R150) -/

/-- The carry chain keeps the residue: what leaves limb 4 at weight 2^130 enters limb 0 times 5. -/
theorem limbVal_limbCarry_mod (d : Limbs) : limbVal (limbCarry d) % (2 ^ 130 - 5) = limbVal d % (2 ^ 130 - 5) := by
  simp only [limbVal, limbCarry, radix]
  omega

theorem limbCarry_betweenBlocks {d : Limbs} (hd : LimbsBelow (2 ^ 58) d) (h4 : d.l4 < 6 * 2 ^ 53) :
    BetweenBlocks (limbCarry d) := by
  obtain ⟨d0, d1, d2, d3, -⟩ := hd
  constructor <;> simp only [limbCarry, radix] <;> omega

/-! ### One block (R187) -/

/-- Settles O40: the widths stage by stage; the residue through carry chain, multiplier and adder. -/
theorem limbBlockRefinesBlockStep : Obligations.LimbBlockRefinesBlockStep := by
  unfold Obligations.LimbBlockRefinesBlockStep
  intro r a n r0 r1 r2 r3 r4 a0 a1 a2 a3 a4 hn
  have hr : LimbsBelow (2 ^ 26) r := by constructor <;> omega
  have hsum : LimbsBelow (2 ^ 27 + 2 ^ 6) (limbAdd a (limbsOf n)) :=
    limbAdd_below ⟨a0, a1, a2, a3, a4⟩ (limbsOf_below n)
  have hprod := limbMul_below hsum hr
  refine ⟨?_, ?_⟩
  · rintro _ rfl
    exact ⟨hprod.l0, hprod.l1, hprod.l2, hprod.l3, hprod.l4⟩
  · rintro _ rfl
    obtain ⟨b0, b1, b2, b3, b4⟩ := limbCarry_betweenBlocks hprod (limbMul_l4_lt hsum hr)
    refine ⟨b0, b1, b2, b3, b4, ?_⟩
    calc limbVal (limbBlock r a n) % (2 ^ 130 - 5)
        = limbVal (limbMul (limbAdd a (limbsOf n)) r) % (2 ^ 130 - 5) := limbVal_limbCarry_mod _
      _ = limbVal (limbAdd a (limbsOf n)) * limbVal r % (2 ^ 130 - 5) := by
          rw [← limbVal_limbMul, Nat.add_mul_mod_self_left]
      _ = (limbVal a + n) * limbVal r % (2 ^ 130 - 5) := by
          rw [limbVal_limbAdd, limbVal_limbsOf (hn.trans (by decide))]

/-! ### The final reduction (R151) -/

theorem limbsOf_limbVal {a : Limbs} (ha : LimbsBelow (2 ^ 26) a) : limbsOf (limbVal a) = a := by
  obtain ⟨a0, a1, a2, a3, a4⟩ := ha
  cases a
  simp only [limbsOf, limbVal, radix, Limbs.mk.injEq]
  simp only at a0 a1 a2 a3 a4
  omega

theorem limbVal_lt {a : Limbs} (ha : LimbsBelow (2 ^ 26) a) : limbVal a < 2 ^ 130 := by
  obtain ⟨a0, a1, a2, a3, a4⟩ := ha
  unfold limbVal
  omega

theorem limbVal_limbFullCarry_mod (a : Limbs) :
    limbVal (limbFullCarry a) % (2 ^ 130 - 5) = limbVal a % (2 ^ 130 - 5) := by
  simp only [limbVal, limbFullCarry, radix]
  omega

/-- The full carry ends with 26 bits in every limb: limb 4 carries out only when limb 1 did, and then limb 1 is left
below 2^6, so the carry that comes back round cannot overflow it. -/
theorem limbFullCarry_below {a : Limbs} (ha : BetweenBlocks a) : LimbsBelow (2 ^ 26) (limbFullCarry a) := by
  obtain ⟨a0, a1, a2, a3, a4⟩ := ha
  constructor <;> simp only [limbFullCarry, radix] <;> omega

/-- `Hval + 5` limb by limb, before the 2^26 is taken off limb 4: the `G` of R151 plus 2^130. -/
def limbPlusFive (h : Limbs) : Limbs :=
  let g0 := h.l0 + 5
  let g1 := h.l1 + g0 / radix
  let g2 := h.l2 + g1 / radix
  let g3 := h.l3 + g2 / radix
  { l0 := g0 % radix, l1 := g1 % radix, l2 := g2 % radix, l3 := g3 % radix, l4 := h.l4 + g3 / radix }

theorem limbVal_limbPlusFive (h : Limbs) : limbVal (limbPlusFive h) = limbVal h + 5 := by
  simp only [limbVal, limbPlusFive, radix]
  omega

theorem limbPlusFive_low (h : Limbs) : LimbsBelow (2 ^ 26) { limbPlusFive h with l4 := 0 } :=
  ⟨Nat.mod_lt _ (by decide), Nat.mod_lt _ (by decide), Nat.mod_lt _ (by decide), Nat.mod_lt _ (by decide),
    Nat.two_pow_pos 26⟩

/-- `G4` of R151 in the limb register. -/
def topDifference (x : Nat) : BitVec 64 := BitVec.ofNat 64 x - BitVec.ofNat 64 radix

/-- The mask of R151: all ones when `G4` has no sign bit. -/
def noBorrowMask (x : Nat) : BitVec 64 := (topDifference x >>> 63) - 1#64

/-- The select of R151 between `Hval` and `Hval − p`. -/
def limbSelect (h g : Limbs) : Limbs :=
  { l0 := (maskSelect (noBorrowMask g.l4) (BitVec.ofNat 64 h.l0) (BitVec.ofNat 64 g.l0)).toNat
    l1 := (maskSelect (noBorrowMask g.l4) (BitVec.ofNat 64 h.l1) (BitVec.ofNat 64 g.l1)).toNat
    l2 := (maskSelect (noBorrowMask g.l4) (BitVec.ofNat 64 h.l2) (BitVec.ofNat 64 g.l2)).toNat
    l3 := (maskSelect (noBorrowMask g.l4) (BitVec.ofNat 64 h.l3) (BitVec.ofNat 64 g.l3)).toNat
    l4 := (maskSelect (noBorrowMask g.l4) (BitVec.ofNat 64 h.l4) (topDifference g.l4)).toNat }

theorem limbReduce_eq_limbSelect (a : Limbs) :
    limbReduce a = limbSelect (limbFullCarry a) (limbPlusFive (limbFullCarry a)) := rfl

theorem noBorrowMask_of_lt {x : Nat} (hx : x < 2 ^ 26) : noBorrowMask x = 0#64 := by
  apply BitVec.eq_of_toNat_eq
  simp only [noBorrowMask, topDifference, radix, BitVec.toNat_sub, BitVec.toNat_ushiftRight, BitVec.toNat_ofNat,
    Nat.shiftRight_eq_div_pow]
  omega

theorem noBorrowMask_radix : noBorrowMask (2 ^ 26) = BitVec.allOnes 64 := by decide

theorem topDifference_radix : topDifference (2 ^ 26) = 0#64 := by decide

theorem maskSelect_zero (h g : BitVec 64) : maskSelect 0#64 h g = h := by
  rw [maskSelect, BitVec.not_zero, BitVec.and_allOnes, BitVec.and_zero, BitVec.or_zero]

theorem maskSelect_allOnes (h g : BitVec 64) : maskSelect (BitVec.allOnes 64) h g = g := by
  rw [maskSelect, BitVec.not_allOnes, BitVec.and_zero, BitVec.and_allOnes, BitVec.zero_or]

/-- A 26-bit limb fits its 64-bit register (R4). -/
theorem toNat_limbRegister {x : Nat} (hx : x < 2 ^ 26) : (BitVec.ofNat 64 x).toNat = x := by
  rw [BitVec.toNat_ofNat, Nat.mod_eq_of_lt (hx.trans (by decide))]

/-- With a borrow, `Hval` stands. -/
theorem limbSelect_of_borrow {h g : Limbs} (hh : LimbsBelow (2 ^ 26) h) (hg : g.l4 < 2 ^ 26) : limbSelect h g = h := by
  simp only [limbSelect, noBorrowMask_of_lt hg, maskSelect_zero, toNat_limbRegister hh.l0, toNat_limbRegister hh.l1,
    toNat_limbRegister hh.l2, toNat_limbRegister hh.l3, toNat_limbRegister hh.l4]

/-- Without a borrow, `Hval − p` is taken, whose top limb is 0. -/
theorem limbSelect_of_noBorrow {g : Limbs} (h : Limbs) (hlow : LimbsBelow (2 ^ 26) { g with l4 := 0 })
    (htop : g.l4 = 2 ^ 26) : limbSelect h g = { g with l4 := 0 } := by
  simp only [limbSelect, htop, noBorrowMask_radix, topDifference_radix, maskSelect_allOnes, toNat_limbRegister hlow.l0,
    toNat_limbRegister hlow.l1, toNat_limbRegister hlow.l2, toNat_limbRegister hlow.l3, BitVec.toNat_zero]

/-- The final reduction gives the limbs of the canonical residue: `Hval + 5` reaches 2^130 exactly when `Hval ≥ p`. -/
theorem limbReduce_eq {a : Limbs} (ha : BetweenBlocks a) : limbReduce a = limbsOf (limbVal a % (2 ^ 130 - 5)) := by
  rw [limbReduce_eq_limbSelect, ← limbVal_limbFullCarry_mod]
  have hh := limbFullCarry_below ha
  generalize limbFullCarry a = h at *
  have hval := limbVal_lt hh
  have hplus := limbVal_limbPlusFive h
  have hlow := limbPlusFive_low h
  by_cases hborrow : (limbPlusFive h).l4 < 2 ^ 26
  · have hlt : limbVal (limbPlusFive h) < 2 ^ 130 := limbVal_lt ⟨hlow.l0, hlow.l1, hlow.l2, hlow.l3, hborrow⟩
    rw [limbSelect_of_borrow hh hborrow, Nat.mod_eq_of_lt (by omega), limbsOf_limbVal hh]
  · have htop : (limbPlusFive h).l4 = 2 ^ 26 := by unfold limbVal at hplus hval; omega
    have hres : limbVal h % (2 ^ 130 - 5) = limbVal { limbPlusFive h with l4 := 0 } := by
      simp only [limbVal] at hplus hval ⊢
      omega
    rw [limbSelect_of_noBorrow h hlow htop, hres, limbsOf_limbVal hlow]

/-! ### The tag (R190) -/

/-- 26 bits of `v` from bit `k` on, moved back to bit `k`. -/
theorem getLsbD_limb (v k i : Nat) (hi : i < 128) :
    (BitVec.ofNat 128 (v / 2 ^ k % 2 ^ 26) <<< k).getLsbD i = (decide (k ≤ i ∧ i < k + 26) && v.testBit i) := by
  rw [BitVec.getLsbD_shiftLeft, BitVec.getLsbD_ofNat, Nat.testBit_mod_two_pow, Nat.testBit_div_two_pow]
  by_cases hk : k ≤ i
  · rw [Nat.sub_add_cancel hk]
    simp [hi, hk, show i - k < 128 by omega, show i - k < 26 ↔ i < k + 26 by omega]
  · simp [hk, show i < k by omega]

theorem limbPack_limbsOf (v : Nat) : limbPack (limbsOf v) = BitVec.ofNat 128 v := by
  apply BitVec.eq_of_getLsbD_eq
  intro i hi
  have limb0 := getLsbD_limb v 0 i hi
  rw [BitVec.shiftLeft_zero, pow_zero, Nat.div_one] at limb0
  simp only [limbPack, limbsOf, radix, BitVec.getLsbD_or, limb0, getLsbD_limb v _ i hi, BitVec.getLsbD_ofNat,
    ← Bool.and_or_distrib_right, ← Bool.decide_or]
  congr 2
  simp only [eq_iff_iff]
  omega

/-- Word `i` of a 128-bit value, as a number (R190). -/
def word128 (x : BitVec 128) (i : Nat) : Nat := (x.extractLsb' (32 * i) 32).toNat

theorem toNat_eq_word128 (x : BitVec 128) :
    x.toNat = word128 x 0 + 2 ^ 32 * (word128 x 1 + 2 ^ 32 * (word128 x 2 + 2 ^ 32 * word128 x 3)) := by
  have hx := x.isLt
  simp only [word128, BitVec.extractLsb'_toNat, Nat.shiftRight_eq_div_pow]
  omega

/-- The addition of R190, over the words by name. -/
theorem addWords128_eq_append (a b : BitVec 128) :
    addWords128 a b =
      let s0 := word128 a 0 + word128 b 0
      let s1 := word128 a 1 + word128 b 1 + s0 / 2 ^ 32
      let s2 := word128 a 2 + word128 b 2 + s1 / 2 ^ 32
      let s3 := word128 a 3 + word128 b 3 + s2 / 2 ^ 32
      BitVec.ofNat 32 s3 ++ BitVec.ofNat 32 s2 ++ BitVec.ofNat 32 s1 ++ BitVec.ofNat 32 s0 := rfl

/-- The word-wise addition with its carries is the addition: the four partial sums weigh together what the words of `a`
and `b` do, and the carry out of the last one has weight 2^128. -/
theorem addWords128_eq (a b : BitVec 128) : addWords128 a b = a + b := by
  apply BitVec.eq_of_toNat_eq
  rw [BitVec.toNat_add, toNat_eq_word128 a, toNat_eq_word128 b]
  simp only [addWords128_eq_append, toNat_append_eq_add, BitVec.toNat_ofNat]
  generalize word128 a 0 = a0, word128 a 1 = a1, word128 a 2 = a2, word128 a 3 = a3
  generalize word128 b 0 = b0, word128 b 1 = b1, word128 b 2 = b2, word128 b 3 = b3
  omega

/-- Settles O41: the reduced limbs are those of the residue, packing gives it back modulo 2^128, and the word-wise
addition is the addition. -/
theorem limbTagIsPolyTag : Obligations.LimbTagIsPolyTag := by
  unfold Obligations.LimbTagIsPolyTag
  intro a pad a0 a1 a2 a3 a4
  rw [limbTag, limbReduce_eq ⟨a0, a1, a2, a3, a4⟩, limbPack_limbsOf, addWords128_eq, BitVec.ofNat_add,
    BitVec.ofNat_toNat, BitVec.setWidth_eq]

/-! ### The clamp (R147, R183) -/

/-- The word read from byte `a` on is those 32 bits of the integer. -/
theorem keyLe32_toNat (k : List Byte) {a n : Nat} (ha : a + 4 ≤ n) :
    (keyLe32 k a).toNat = leint (k.take n) / 2 ^ (8 * a) % 2 ^ 32 := by
  have byte (j : Nat) (hj : j < 4) :
      leint (k.take n) / 2 ^ (8 * a) / 2 ^ (8 * j) % 2 ^ 8 = (k.getD (a + j) 0).toNat := by
    rw [Nat.div_div_eq_div_mul, ← pow_add, ← Nat.mul_add, leint_div_mod, List.getD_eq_getElem?_getD,
      List.getD_eq_getElem?_getD, List.getElem?_take_of_lt (by omega)]
  have b0 := byte 0 (by decide)
  have b1 := byte 1 (by decide)
  have b2 := byte 2 (by decide)
  have b3 := byte 3 (by decide)
  rw [Nat.add_zero] at b0
  rw [keyLe32, le32_toNat, ← b0, ← b1, ← b2, ← b3]
  omega

/-- The mask of the clamp (R183). -/
def clampMask : Nat := 0x0FFFFFFC0FFFFFFC0FFFFFFC0FFFFFFF

theorem clamp_toNat {v : Nat} (hv : v < 2 ^ 128) : (clamp (BitVec.ofNat 128 v)).toNat = v &&& clampMask := by
  rw [clamp, BitVec.toNat_and, BitVec.toNat_ofNat, Nat.mod_eq_of_lt hv]
  rfl

theorem and_eq_mod_and {n m : Nat} (hm : m < 2 ^ n) (x : Nat) : x &&& m = x % 2 ^ n &&& m := by
  rw [← Nat.mod_eq_of_lt (Nat.and_lt_two_pow x hm), Nat.and_mod_two_pow, Nat.mod_eq_of_lt hm]

/-- One limb of the clamped value from a key word: the word starts `s` bits below the limb and holds the `n` bits of it
that the clamp mask can keep. -/
theorem clampLimb_eq (v a : Nat) {s n m : Nat} (hs : s + n ≤ 32) (hn : n ≤ 26) (hmn : m < 2 ^ n)
    (hm : m = clampMask / 2 ^ (8 * a + s) % radix) :
    v / 2 ^ (8 * a) % 2 ^ 32 / 2 ^ s &&& m = (v &&& clampMask) / 2 ^ (8 * a + s) % radix := by
  have bits : v / 2 ^ (8 * a) % 2 ^ 32 / 2 ^ s % 2 ^ n = v / 2 ^ (8 * a + s) % 2 ^ 26 % 2 ^ n := by
    apply Nat.eq_of_testBit_eq
    intro i
    simp only [Nat.testBit_mod_two_pow, Nat.testBit_div_two_pow]
    by_cases hi : i < n
    · simp [hi, show i + s < 32 by omega, show i < 26 by omega, Nat.add_assoc, Nat.add_comm s]
    · simp [hi]
  calc v / 2 ^ (8 * a) % 2 ^ 32 / 2 ^ s &&& m
      = v / 2 ^ (8 * a + s) % 2 ^ 26 &&& m := by rw [and_eq_mod_and hmn, bits, ← and_eq_mod_and hmn]
    _ = (v &&& clampMask) / 2 ^ (8 * a + s) % radix := by
      rw [hm, radix, Nat.and_div_two_pow, Nat.and_mod_two_pow]

/-- One limb of R183 is that limb of the clamped multiplier. -/
theorem keyLe32_clampLimb {k : List Byte} (hk : 16 ≤ k.length) (a : Nat) {s n : Nat} {m : Word} (ha : a + 4 ≤ 16)
    (hs : s + n ≤ 32) (hn : n ≤ 26) (hmn : m.toNat < 2 ^ n) (hm : m.toNat = clampMask / 2 ^ (8 * a + s) % radix) :
    ((keyLe32 k a >>> s) &&& m).toNat =
      (clamp (BitVec.ofNat 128 (leint (k.take 16)))).toNat / 2 ^ (8 * a + s) % radix := by
  rw [clamp_toNat (leint_take_lt hk), BitVec.toNat_and, BitVec.toNat_ushiftRight, Nat.shiftRight_eq_div_pow,
    keyLe32_toNat k ha, clampLimb_eq _ a hs hn hmn hm]

theorem clampLimbs_eq {k : List Byte} (hk : 16 ≤ k.length) :
    clampLimbs k = limbsOf (clamp (BitVec.ofNat 128 (leint (k.take 16)))).toNat := by
  rw [clampLimbs, limbsOf, Limbs.mk.injEq]
  refine ⟨?_, keyLe32_clampLimb hk 3 (s := 2) (n := 26) ?_ ?_ ?_ ?_ ?_,
    keyLe32_clampLimb hk 6 (s := 4) (n := 26) ?_ ?_ ?_ ?_ ?_,
    keyLe32_clampLimb hk 9 (s := 6) (n := 26) ?_ ?_ ?_ ?_ ?_,
    keyLe32_clampLimb hk 12 (s := 8) (n := 24) ?_ ?_ ?_ ?_ ?_⟩
  · have limb0 := keyLe32_clampLimb hk 0 (s := 0) (n := 26) (m := 0x3FFFFFF#32) (by decide) (by decide) (by decide)
      (by decide) (by decide)
    rwa [BitVec.ushiftRight_zero, Nat.mul_zero, Nat.add_zero, pow_zero, Nat.div_one] at limb0
  all_goals decide

/-- Settles O42: limb by limb, each mask of R183 being that limb of the clamp mask; the bounds are the masks. -/
theorem clampLimbsAreLimbsOfClamp : Obligations.ClampLimbsAreLimbsOfClamp := by
  unfold Obligations.ClampLimbsAreLimbsOfClamp
  intro k hk
  have hclamp : (clamp (BitVec.ofNat 128 (leint (k.take 16)))).toNat < 2 ^ 124 :=
    (BitVec.toNat_and ..).trans_le Nat.and_le_right |>.trans_lt (by decide)
  refine ⟨clampLimbs_eq hk, hclamp, ?_, ?_, ?_, ?_, ?_⟩ <;> exact (BitVec.toNat_and ..).trans_le Nat.and_le_right

end Sys2Proof.Proofs
end

section
/-! ChaCha20 (41_chacha20.md): the context `CC_INIT` builds (R160), and the keystream of `CC_XOR` (R161, R164). The one
idea of the latter is that consuming bytes is additive: the context after `m` and then `n` bytes is the context after
`m + n`, so one pass of the loop gives the loop, and one command gives any sequence of commands (R166, R343). -/

namespace Sys2Proof.Proofs

open Sys2Proof.Machine

/-! ### Consuming a keystream in parts (R164, R236) -/

theorem blocksNeeded_add (a m n : Nat) :
    blocksNeeded a (m + n) = blocksNeeded a m + blocksNeeded (availAfter a m) n := by
  unfold availAfter blocksNeeded
  omega

theorem availAfter_add (a m n : Nat) : availAfter a (m + n) = availAfter (availAfter a m) n := by
  unfold availAfter blocksNeeded
  omega

theorem availAfter_le {a : Nat} (ha : a ≤ 64) (n : Nat) : availAfter a n ≤ 64 := by
  unfold availAfter blocksNeeded
  omega

/-- The wrap flag does not see where a count of blocks was cut: the counter is taken modulo `M` at the cut. -/
theorem wrapSticky_add {M c : Nat} (hc : c < M) (flag : BitVec 6) (m n : Nat) (old : BitVec 6) :
    wrapSticky M flag ((c + m) % M) n (wrapSticky M flag c m old) = wrapSticky M flag c (m + n) old := by
  induction n with
  | zero => exact wrapSticky_zero (Nat.mod_lt _ (by omega)) ..
  | succ n ih => rw [wrapSticky_succ, ih, Nat.mod_add_mod, Nat.add_assoc, ← Nat.add_assoc m, wrapSticky_succ]

/-- The block buffer after `b` blocks: the last one generated, if any. -/
def blockAfter (blk : Vector Byte 64) (blockAt : Nat → Vector Byte 64) (b : Nat) : Vector Byte 64 :=
  if b = 0 then blk else blockAt (b - 1)

theorem blockAfter_add (blk : Vector Byte 64) (blockAt : Nat → Vector Byte 64) (b d : Nat) :
    blockAfter (blockAfter blk blockAt b) (fun k => blockAt (b + k)) d = blockAfter blk blockAt (b + d) := by
  unfold blockAfter
  by_cases hd : d = 0
  · simp [hd]
  · rw [if_neg hd, if_neg (by omega), Nat.add_sub_assoc (by omega)]

/-- Byte `i` of the stream that is first the `a` bytes left of a block buffer, then successive blocks: the one shape of
the keystreams of R164 and R236. -/
def streamByte (a : Nat) (blk : Vector Byte 64) (blockAt : Nat → Vector Byte 64) (i : Nat) : Byte :=
  if i < a then blk.getD (64 - a + i) 0 else (blockAt ((i - a) / 64)).getD ((i - a) % 64) 0

/-- A byte that is left after `m` bytes was left before them, or is in the last block generated. -/
theorem leftByte_place {a m i : Nat} (ha : a ≤ 64) (hi : i < availAfter a m) :
    (blocksNeeded a m = 0 → m + i < a ∧ 64 - availAfter a m + i = 64 - a + (m + i)) ∧
    (blocksNeeded a m ≠ 0 → a ≤ m + i ∧
      m + i - a = 64 * (blocksNeeded a m - 1) + (64 - availAfter a m + i) ∧ 64 - availAfter a m + i < 64) := by
  unfold availAfter blocksNeeded at *
  omega

/-- A byte past those left after `m` bytes is as far past the blocks generated by then. -/
theorem laterByte_place {a m i : Nat} (hi : availAfter a m ≤ i) :
    a ≤ m + i ∧ m + i - a = 64 * blocksNeeded a m + (i - availAfter a m) := by
  unfold availAfter blocksNeeded at *
  omega

/-- The stream after `m` bytes is the same stream, `m` bytes on. -/
theorem streamByte_after {a : Nat} (ha : a ≤ 64) (blk : Vector Byte 64) (blockAt : Nat → Vector Byte 64) (m i : Nat) :
    streamByte (availAfter a m) (blockAfter blk blockAt (blocksNeeded a m)) (fun k => blockAt (blocksNeeded a m + k)) i =
      streamByte a blk blockAt (m + i) := by
  unfold streamByte
  by_cases hleft : i < availAfter a m
  · obtain ⟨hold, hlast⟩ := leftByte_place ha hleft
    rw [if_pos hleft]
    by_cases hb : blocksNeeded a m = 0
    · obtain ⟨hin, hplace⟩ := hold hb
      rw [blockAfter, if_pos hb, if_pos hin, hplace]
    · obtain ⟨hout, hplace, hlt⟩ := hlast hb
      rw [blockAfter, if_neg hb, if_neg (Nat.not_lt.2 hout), hplace, Nat.mul_add_div (by decide), Nat.mul_add_mod,
        Nat.div_eq_of_lt hlt, Nat.mod_eq_of_lt hlt, Nat.add_zero]
  · obtain ⟨hout, hplace⟩ := laterByte_place (Nat.not_lt.1 hleft)
    rw [if_neg hleft, if_neg (Nat.not_lt.2 hout), hplace, Nat.mul_add_div (by decide), Nat.mul_add_mod]

/-! ### The ChaCha20 context after `n` bytes (R43, R164) -/

@[simp] theorem ccAdvance_zero (st : Vector Word 16) : ccAdvance st 0 = st := by simp [ccAdvance]

theorem ccAdvance_add (st : Vector Word 16) (m n : Nat) : ccAdvance (ccAdvance st m) n = ccAdvance st (m + n) := by
  simp [ccAdvance, BitVec.ofNat_add, BitVec.add_assoc]

/-- The block counter advances modulo 2^32 (R168). -/
theorem ccAdvance_counter (st : Vector Word 16) (m : Nat) :
    (ccAdvance st m)[12].toNat = (st[12].toNat + m) % 2 ^ 32 := by
  simp [ccAdvance]

/-- The context after `n` keystream bytes are consumed from it. -/
def ccAfter (c : CC) (n : Nat) : CC :=
  { c with
    st := ccAdvance c.st (blocksNeeded c.avail n)
    blk := blockAfter c.blk (fun k => ccBlock (ccAdvance c.st k)) (blocksNeeded c.avail n)
    avail := availAfter c.avail n }

@[simp] theorem ccAfter_zero (c : CC) : ccAfter c 0 = c := by simp [ccAfter, blockAfter]

theorem ccAfter_add (c : CC) (m n : Nat) : ccAfter (ccAfter c m) n = ccAfter c (m + n) := by
  simp only [ccAfter, ccAdvance_add, blockAfter_add, ← blocksNeeded_add, ← availAfter_add]

theorem ccKeystream_ccAfter {c : CC} (hc : c.avail ≤ 64) (m i : Nat) :
    ccKeystream (ccAfter c m) i = ccKeystream c (m + i) := by
  have hstream := streamByte_after hc c.blk (fun k => ccBlock (ccAdvance c.st k)) m i
  simp only [← ccAdvance_add] at hstream
  exact hstream

/-! ### The loop of `CC_XOR` (R161) -/

/-- One pass consumes one byte. -/
theorem ccXorByte_ccAfter (i : Nat) (s : State) : (ccXorByte i s).cc = ccAfter s.cc 1 := by
  by_cases h : s.cc.avail = 0
  · rw [ccXorByte_cc, ccRefill_of_spent h]
    simp [ccAfter, h, blocksNeeded, availAfter, blockAfter, ccAdvance, add32]
  · obtain ⟨hneeded, hafter⟩ := nextByte_of_left (n := 0) ((availAfter_zero s.cc.avail).trans_ne h)
    rw [ccXorByte_cc, ccRefill_of_left h, ccAfter, hneeded, hafter, blocksNeeded_zero, availAfter_zero, ccAdvance_zero]
    rfl

/-- The byte the pass uses is the keystream's next one. -/
theorem ccKeyByte_ccRefill (s : State) : ccKeyByte (ccRefill s).cc = ccKeystream s.cc 0 := by
  by_cases h : s.cc.avail = 0
  · rw [ccRefill_of_spent h]
    simp [ccKeyByte, ccKeystream, h]
  · rw [ccRefill_of_left h, ccKeyByte, ccKeystream, if_pos (Nat.pos_of_ne_zero h), Nat.add_zero]

theorem ccXorLoop_cc (n : Nat) (s : State) : (forUpTo ccXorByte n s).cc = ccAfter s.cc n := by
  induction n with
  | zero => exact (ccAfter_zero s.cc).symm
  | succ n ih => rw [forUpTo_succ, ccXorByte_ccAfter, ih, ccAfter_add]

theorem getElem_buf (s : State) {j : Nat} (hj : j < 128) : s.buf[j] = bufB s j := by
  simp [bufB, Vector.getD, hj]

/-- Passes that each write the byte of their own number, pass `i` XORing `ks i` into it, do so to every byte they
reach. -/
theorem bufB_forUpTo_xor {body : Nat → State → State} {ks : Nat → Byte} {s : State}
    (hother : ∀ i u j, i ≠ j → bufB (body i u) j = bufB u j)
    (hown : ∀ i, i < 128 → bufB (body i (forUpTo body i s)) i = bufB (forUpTo body i s) i ^^^ ks i) {n j : Nat}
    (hjn : j < n) (hj : j < 128) : bufB (forUpTo body n s) j = bufB s j ^^^ ks j := by
  induction n with
  | zero => exact absurd hjn (Nat.not_lt_zero j)
  | succ n ih =>
    rw [forUpTo_succ]
    by_cases hlast : n = j
    · rw [hlast, hown j hj, bufB_forUpTo hother (Nat.le_refl j)]
    · rw [hother n _ j hlast, ih (by omega)]

theorem bufB_ccXorLoop {s : State} (hc : s.cc.avail ≤ 64) {n j : Nat} (hjn : j < n) (hj : j < 128) :
    bufB (forUpTo ccXorByte n s) j = bufB s j ^^^ ccKeystream s.cc j := by
  refine bufB_forUpTo_xor (fun _ u _ hij => bufB_ccXorByte hij u) (fun i hi => ?_) hjn hj
  rw [bufB, ccXorByte_buf, ccKeyByte_ccRefill, ccXorLoop_cc, ccKeystream_ccAfter hc, Nat.add_zero]
  exact (bufB_setBufB _ i i _).trans (if_pos ⟨rfl, hi⟩)

theorem ccXorLoop_buf {s : State} (hc : s.cc.avail ≤ 64) (n : Nat) :
    (forUpTo ccXorByte n s).buf = Vector.ofFn fun j : Fin 128 =>
      if j.val < n then s.buf[j] ^^^ ccKeystream s.cc j.val else s.buf[j] := by
  refine Vector.ext fun j hj => ?_
  rw [Vector.getElem_ofFn, getElem_buf _ hj, Fin.getElem_fin, getElem_buf s hj]
  by_cases hjn : j < n
  · rw [if_pos hjn, bufB_ccXorLoop hc hjn hj]
  · rw [if_neg hjn, bufB_forUpTo (fun _ u _ hij => bufB_ccXorByte hij u) (Nat.not_lt.1 hjn)]

/-! ### The command `CC_XOR` (R161) -/

theorem execCcXor_of_invalid {s : State} (h : s.cc.valid = false) :
    exec .ccXor s = .next (complete 0x11#8 .eState s) := if_pos h

theorem execCcXor_of_gated {s : State} (hvalid : s.cc.valid = true) (h : s.cc.gate = true) :
    exec .ccXor s = .next (complete 0x11#8 .eGated s) :=
  (if_neg (ne_false_of_eq_true hvalid)).trans (if_pos h)

theorem execCcXor_of_long {s : State} (hvalid : s.cc.valid = true) (hgate : s.cc.gate = false)
    (h : 128 < s.len.toNat) : exec .ccXor s = .next (complete 0x11#8 .eLen s) :=
  (if_neg (ne_false_of_eq_true hvalid)).trans ((if_neg (ne_true_of_eq_false hgate)).trans (if_pos h))

theorem execCcXor_of_open {s : State} (hvalid : s.cc.valid = true) (hgate : s.cc.gate = false)
    (h : s.len.toNat ≤ 128) :
    exec .ccXor s = .next (complete 0x11#8 .ok (forUpTo ccXorByte s.len.toNat s)) :=
  (if_neg (ne_false_of_eq_true hvalid)).trans
    ((if_neg (ne_true_of_eq_false hgate)).trans (if_neg (Nat.not_lt.2 h)))

/-- Only a `CC_XOR` that passed its three checks completes `OK`. -/
theorem open_of_execCcXor_ok {s t : State} (h : exec .ccXor s = .next t) (hok : t.code = .ok) :
    s.cc.valid = true ∧ s.cc.gate = false ∧ s.len.toNat ≤ 128 := by
  cases hvalid : s.cc.valid with
  | false =>
    cases (execCcXor_of_invalid hvalid).symm.trans h
    cases hok
  | true =>
    cases hgate : s.cc.gate with
    | true =>
      cases (execCcXor_of_gated hvalid hgate).symm.trans h
      cases hok
    | false =>
      refine ⟨rfl, rfl, Nat.le_of_not_lt fun hlen => ?_⟩
      cases (execCcXor_of_long hvalid hgate hlen).symm.trans h
      cases hok

/-- What `CC_XOR` does not write is as it was (30_encoding.md R102). -/
theorem eq_of_execCcXor {s t : State} (h : exec .ccXor s = .next t) :
    t = { s with code := t.code, lastop := t.lastop, sticky := t.sticky, buf := t.buf, cc := t.cc } :=
  congrArg (fun u => { u with code := t.code, lastop := t.lastop, sticky := t.sticky, buf := t.buf, cc := t.cc })
    (exec_unwritten .ccXor s t h)

/-- `STICKY` after `n` keystream bytes consumed from the context `c` (R168). -/
def ccStickyAfter (c : CC) (n : Nat) (old : BitVec 6) : BitVec 6 :=
  wrapSticky (2 ^ 32) stickyCcWrap c.st[12].toNat (blocksNeeded c.avail n) old

theorem ccStickyAfter_add (c : CC) (m n : Nat) (old : BitVec 6) :
    ccStickyAfter (ccAfter c m) n (ccStickyAfter c m old) = ccStickyAfter c (m + n) old := by
  simp only [ccStickyAfter, blocksNeeded_add, ← wrapSticky_add c.st[12].isLt, ← ccAdvance_counter]
  rfl

/-- `CC_XOR` past its checks. -/
theorem execCcXor_eq {s : State} (hvalid : s.cc.valid = true) (hgate : s.cc.gate = false) (hlen : s.len.toNat ≤ 128)
    (hc : s.cc.avail ≤ 64) :
    exec .ccXor s = .next { s with
      code := .ok
      lastop := 0x11#8
      sticky := ccStickyAfter s.cc s.len.toNat s.sticky
      buf := Vector.ofFn fun j : Fin 128 =>
        if j.val < s.len.toNat then s.buf[j] ^^^ ccKeystream s.cc j.val else s.buf[j]
      cc := ccAfter s.cc s.len.toNat } := by
  have hexec := execCcXor_of_open hvalid hgate hlen
  obtain ⟨-, -, hsticky⟩ := ccXorByte_streamPass.loop s.len.toNat s
  rw [hexec, eq_of_execCcXor hexec, complete_ok]
  simp only [ccXorLoop_cc, ccXorLoop_buf hc, hsticky, ccStickyAfter]

/-! ### A byte string in chunks (30_encoding.md R108, 70_reset_and_hazards.md R343) -/

theorem execChunks_cons {i : Instr} {c : List Byte} {s t : State} (h : exec i (loadChunk c s) = .next t)
    (cs : List (List Byte)) : execChunks i (c :: cs) s = execChunks i cs t := by rw [execChunks, h]

theorem execChunks_append {i : Instr} {cs : List (List Byte)} {s t : State} (h : execChunks i cs s = .next t)
    (ds : List (List Byte)) : execChunks i (cs ++ ds) s = execChunks i ds t := by
  induction cs generalizing s with
  | nil =>
    cases h
    rfl
  | cons c cs ih =>
    obtain ⟨code, u, hu⟩ := exec_completes i (loadChunk c s)
    rw [List.cons_append, execChunks_cons hu]
    exact ih ((execChunks_cons hu cs).symm.trans h)

/-- An invariant of the bytes given so far that every command on a chunk of at most 128 bytes keeps, a sequence of them
keeps. -/
theorem execChunks_invariant {i : Instr} {P : List Byte → State → Prop}
    (hstep : ∀ m c s, c.length ≤ 128 → P m s → ∃ t, exec i (loadChunk c s) = .next t ∧ P (m ++ c) t)
    (cs : List (List Byte)) {m : List Byte} {s : State} (hcs : ∀ d ∈ cs, d.length ≤ 128) (hs : P m s) :
    ∃ t, execChunks i cs s = .next t ∧ P (m ++ cs.flatten) t := by
  induction cs generalizing m s with
  | nil => exact ⟨s, rfl, by simpa using hs⟩
  | cons c cs ih =>
    obtain ⟨hc, hrest⟩ := List.forall_mem_cons.1 hcs
    obtain ⟨u, hu, hPu⟩ := hstep m c s hc hs
    obtain ⟨t, ht, hPt⟩ := ih hrest hPu
    exact ⟨t, (execChunks_cons hu cs).trans ht, by simpa using hPt⟩

@[simp] theorem loadChunk_cc (c : List Byte) (s : State) : (loadChunk c s).cc = s.cc := rfl

@[simp] theorem loadChunk_sticky (c : List Byte) (s : State) : (loadChunk c s).sticky = s.sticky := rfl

theorem loadChunk_len {c : List Byte} (hc : c.length ≤ 128) (s : State) : (loadChunk c s).len.toNat = c.length := by
  simp only [loadChunk, BitVec.toNat_ofNat]
  omega

theorem bufB_loadChunk {c : List Byte} {s : State} {j : Nat} (hj : j < c.length) (h128 : j < 128) :
    bufB (loadChunk c s) j = c.getD j 0 := by
  simp [← getElem_buf _ h128, loadChunk, hj]

/-- `CC_XOR` on a chunk: its output bytes, and the context and `STICKY` after it. -/
theorem execCcXor_loadChunk {s : State} {c : List Byte} (hvalid : s.cc.valid = true) (hgate : s.cc.gate = false)
    (hs : s.cc.avail ≤ 64) (hc : c.length ≤ 128) :
    ∃ t, exec .ccXor (loadChunk c s) = .next t ∧ (∀ j, j < c.length → bufB t j = c.getD j 0 ^^^ ccKeystream s.cc j) ∧
      t.cc = ccAfter s.cc c.length ∧ t.sticky = ccStickyAfter s.cc c.length s.sticky := by
  have hlen := loadChunk_len hc s
  have hexec := execCcXor_of_open (s := loadChunk c s) hvalid hgate (hlen.trans_le hc)
  obtain ⟨-, -, hsticky⟩ := ccXorByte_streamPass.loop c.length (loadChunk c s)
  rw [hlen, complete_ok] at hexec
  refine ⟨_, hexec, fun j hj => ?_, ccXorLoop_cc .., hsticky⟩
  have h128 : j < 128 := by omega
  rw [← bufB_loadChunk hj h128]
  exact bufB_ccXorLoop (s := loadChunk c s) hs hj h128

/-- Where the context `c` with the sticky bits `old` has come to after the bytes `m`. -/
def CcStreamed (c : CC) (old : BitVec 6) (m : List Byte) (u : State) : Prop :=
  u.cc = ccAfter c m.length ∧ u.sticky = ccStickyAfter c m.length old

/-- One chunk more: its output continues the keystream of the whole string. -/
theorem CcStreamed.next {c₀ : CC} {old : BitVec 6} {m c : List Byte} {u : State} (hvalid : c₀.valid = true)
    (hgate : c₀.gate = false) (hc₀ : c₀.avail ≤ 64) (hc : c.length ≤ 128) (hu : CcStreamed c₀ old m u) :
    ∃ t, exec .ccXor (loadChunk c u) = .next t ∧
      (∀ j, j < c.length → bufB t j = c.getD j 0 ^^^ ccKeystream c₀ (m.length + j)) ∧ CcStreamed c₀ old (m ++ c) t := by
  obtain ⟨hcc, hsticky⟩ := hu
  obtain ⟨t, ht, hbuf, htcc, htsticky⟩ := execCcXor_loadChunk (s := u) (by rw [hcc]; exact hvalid)
    (by rw [hcc]; exact hgate) (by rw [hcc]; exact availAfter_le hc₀ _) hc
  refine ⟨t, ht, fun j hj => ?_, ?_, ?_⟩
  · rw [hbuf j hj, hcc, ccKeystream_ccAfter hc₀]
  · rw [htcc, hcc, ccAfter_add, List.length_append]
  · rw [htsticky, hsticky, hcc, ccStickyAfter_add, List.length_append]

/-! ### The obligations -/

/-- Settles O26, by induction on the chunks: each leaves the context where the bytes so far take it, because consuming
bytes is additive. -/
theorem ccStreamOfAnyChunking : Obligations.CcStreamOfAnyChunking := by
  unfold Obligations.CcStreamOfAnyChunking
  intro s cs c hvalid hgate hs hc hcs
  have hstep : ∀ m d u, d.length ≤ 128 → CcStreamed s.cc s.sticky m u →
      ∃ t, exec .ccXor (loadChunk d u) = .next t ∧ CcStreamed s.cc s.sticky (m ++ d) t := fun m d u hd hu =>
    have ⟨t, ht, _, hnext⟩ := hu.next hvalid hgate hs hd
    ⟨t, ht, hnext⟩
  have hstart : CcStreamed s.cc s.sticky [] s :=
    ⟨(ccAfter_zero s.cc).symm, by simp [ccStickyAfter, wrapSticky_zero s.cc.st[12].isLt]⟩
  obtain ⟨u, hu, hstreamed⟩ := execChunks_invariant hstep cs hcs hstart
  obtain ⟨t, ht, hbuf, hcc, hsticky⟩ := hstreamed.next hvalid hgate hs hc
  rw [List.nil_append] at hbuf hcc hsticky
  rw [List.length_append] at hcc hsticky
  exact ⟨t, (execChunks_append hu [c]).trans (execChunks_cons ht []), hbuf, hcc, hsticky⟩

/-- Settles O25: past its checks the command is its loop, which consumes `LEN` keystream bytes. -/
theorem ccXorProducesKeystream : Obligations.CcXorProducesKeystream := by
  unfold Obligations.CcXorProducesKeystream
  exact ⟨rfl, fun s => ⟨execCcXor_eq, execCcXor_of_invalid, execCcXor_of_gated, execCcXor_of_long⟩⟩

/-- Settles O27: the second run starts from the first one's context and `LEN`, so it XORs the same keystream bytes. -/
theorem ccXorInvolution : Obligations.CcXorInvolution := by
  unfold Obligations.CcXorInvolution
  intro s t hc h hok
  obtain ⟨hvalid, hgate, hlen⟩ := open_of_execCcXor_ok h hok
  cases (execCcXor_eq hvalid hgate hlen hc).symm.trans h
  refine ⟨_, execCcXor_eq hvalid hgate hlen hc, rfl, Vector.ext fun j hj => ?_, rfl⟩
  by_cases hjn : j < s.len.toNat
  · simp [hjn]
  · simp [hjn]

/-- Settles O24: the two checks of R160 in their order, after which the context is built over a zero one. -/
theorem ccInitBuildsContext : Obligations.CcInitBuildsContext := by
  unfold Obligations.CcInitBuildsContext
  refine ⟨rfl, fun s => ⟨fun hkey hnonce => ?_, fun hkey => ?_, fun hkey hnonce => ?_⟩⟩
  · refine (if_neg (not_not.2 hkey)).trans ((if_neg (not_not.2 hnonce)).trans ?_)
    rw [endWith_eq, complete_ok]
    simp [ccState, keyWords, CC.zero, sigmaC0, sigmaC1, sigmaC2, sigmaC3]
  · exact if_pos hkey
  · exact (if_neg (not_not.2 hkey)).trans (if_pos hnonce)

end Sys2Proof.Proofs
end

section
/-! Poly1305 (42_poly1305.md): the four commands (R180 to R182, R191) and the message they absorb (R185, R193). The one
idea is that the context is a function `plAfter` of the bytes absorbed so far: one byte more takes the context of `d` to
that of `d ++ [b]`, so one pass of the loop gives the loop, and one command gives any sequence of commands (R343). -/

namespace Sys2Proof.Proofs

open Sys2Proof.Machine

/-! ### Little-endian integers in parts (40_primitives.md R134) -/

theorem leint_append (a b : List Byte) : leint (a ++ b) = leint a + 2 ^ (8 * a.length) * leint b := by
  induction a with
  | nil => simp [leint]
  | cons x a ih =>
    rw [List.cons_append, leint, leint, ih, List.length_cons]
    ring

theorem leint_replicate_zero (n : Nat) : leint (List.replicate n 0#8) = 0 := by
  induction n with
  | zero => rfl
  | succ n ih => simp [List.replicate_succ, leint, ih]

theorem stint_getElem (n v i : Nat) (h : i < (stint n v).length) :
    (stint n v)[i] = BitVec.ofNat 8 (v / 2 ^ (8 * i)) := by
  induction n generalizing v i with
  | zero => exact absurd h (Nat.not_lt_zero i)
  | succ n ih =>
    cases i with
    | zero => simp [stint]
    | succ i =>
      simp only [stint, List.getElem_cons_succ, ih, Nat.div_div_eq_div_mul]
      congr 2
      ring

/-! ### The bytes of `KEY` and `TAG` (20_memory.md R72) -/

theorem bytesOf_succ (n : Nat) (f : Nat → Byte) : bytesOf (n + 1) f = bytesOf n f ++ [f n] := by
  simp [bytesOf, List.range_succ]

theorem bytesOf_congr {n : Nat} {f g : Nat → Byte} (h : ∀ i, i < n → f i = g i) : bytesOf n f = bytesOf n g :=
  List.map_congr_left fun i hi => h i (List.mem_range.1 hi)

theorem bytesOf_getD (c : List Byte) : bytesOf c.length (c.getD · 0) = c := by
  refine List.ext_getElem (bytesOf_length ..) fun i _ hi => ?_
  rw [bytesOf_getElem, List.getD_eq_getElem c 0 hi]

theorem take_bytesOf {m n : Nat} (h : m ≤ n) (f : Nat → Byte) : (bytesOf n f).take m = bytesOf m f := by
  rw [bytesOf, ← List.map_take, List.take_range, Nat.min_eq_left h, bytesOf]

theorem drop_bytesOf (m n : Nat) (f : Nat → Byte) : (bytesOf (m + n) f).drop m = bytesOf n fun j => f (m + j) := by
  refine List.ext_getElem (by simp) fun i _ _ => ?_
  rw [List.getElem_drop, bytesOf_getElem, bytesOf_getElem]

theorem arrayByte_tagWords (t : BitVec 128) {j : Nat} (hj : j < 16) :
    arrayByte (tagWords t) j = BitVec.ofNat 8 (t.toNat / 2 ^ (8 * j)) := by
  have hword : (tagWords t).getD (j / 4) 0 = t.extractLsb' (32 * (j / 4)) 32 := by
    simp [Vector.getD, tagWords, show j / 4 < 4 by omega]
  rw [arrayByte, hword, wordByte]
  apply BitVec.eq_of_getLsbD_eq
  intro i hi
  simp only [BitVec.getLsbD_extractLsb', BitVec.getLsbD_ofNat, Nat.testBit_div_two_pow, BitVec.testBit_toNat]
  simp only [hi, show 8 * (j % 4) + i < 32 by omega, decide_true, Bool.true_and]
  congr 1
  omega

/-- `TAG` written from a 128-bit tag reads as its 16 little-endian bytes (R182, R189). -/
theorem bytesOf_tagWords (v : Nat) : bytesOf 16 (arrayByte (tagWords (BitVec.ofNat 128 v))) = stint 16 v := by
  refine List.ext_getElem (by simp [stint_length]) fun j hj _ => ?_
  have hj16 : j < 16 := by simpa using hj
  rw [bytesOf_getElem, arrayByte_tagWords _ hj16, stint_getElem]
  apply BitVec.eq_of_getLsbD_eq
  intro i hi
  simp only [BitVec.getLsbD_ofNat, BitVec.toNat_ofNat, Nat.testBit_div_two_pow, Nat.testBit_mod_two_pow,
    show i + 8 * j < 128 by omega, decide_true, Bool.true_and]

/-! ### The context after a byte string (R181) -/

/-- The bytes that wait for their block (R44). -/
def leftover (p : PL) : List Byte := p.lbuf.toList.take p.lfill

/-- Byte `i` of the leftover buffer after the byte string `d`: the string's own bytes past its last full block, and
beyond them what the buffer held, which the first full block clears (R181). -/
def lbufByte (p : PL) (d : List Byte) (i : Fin 16) : Byte :=
  if d.length < 16 then (if i.val < d.length then d.getD i.val 0 else p.lbuf[i])
  else d.getD (16 * (d.length / 16) + i.val) 0

/-- The context of `p` after the byte string `d`, of which `p` itself has absorbed nothing yet (R181). -/
def plAfter (p : PL) (d : List Byte) : PL :=
  { p with
    h := polyAcc p.r.toNat p.h d (d.length / 16)
    lfill := d.length % 16
    lbuf := Vector.ofFn (lbufByte p d) }

@[simp] theorem plAfter_pad (p : PL) (d : List Byte) : (plAfter p d).pad = p.pad := rfl

theorem plAfter_eq {p : PL} {d : List Byte} {q k : Nat} {v : Vector Byte 16} (hdiv : d.length / 16 = q)
    (hmod : d.length % 16 = k) (hlbuf : Vector.ofFn (lbufByte p d) = v) :
    plAfter p d = { p with h := polyAcc p.r.toNat p.h d q, lfill := k, lbuf := v } := by
  rw [plAfter, hdiv, hmod, hlbuf]

theorem leftover_length {p : PL} (h : p.lfill ≤ 15) : (leftover p).length = p.lfill := by
  simp [leftover, show p.lfill ≤ 16 by omega]

/-- Before any new byte the byte string is the leftover bytes. -/
theorem plAfter_leftover {p : PL} (h : p.lfill ≤ 15) : plAfter p (leftover p) = p := by
  have hlbuf : Vector.ofFn (lbufByte p (leftover p)) = p.lbuf := by
    refine Vector.ext fun i hi => ?_
    rw [Vector.getElem_ofFn, lbufByte, leftover_length h, if_pos (by omega)]
    by_cases hif : i < p.lfill
    · simp [leftover, hif, hi]
    · rw [if_neg hif, Fin.getElem_fin]
  have hlength := leftover_length h
  exact plAfter_eq (q := 0) (k := p.lfill) (by omega) (by omega) hlbuf

theorem lbufByte_of_pending (p : PL) {d : List Byte} {i : Fin 16} (hi : i.val < d.length % 16) :
    lbufByte p d i = d.getD (16 * (d.length / 16) + i.val) 0 := by
  unfold lbufByte
  split
  · rw [if_pos (by omega), Nat.div_eq_of_lt (by assumption), Nat.mul_zero, Nat.zero_add]
  · rfl

/-- The bytes that wait are those past the last full block. -/
theorem leftover_plAfter (p : PL) (d : List Byte) : leftover (plAfter p d) = d.drop (16 * (d.length / 16)) := by
  have hlength : (leftover (plAfter p d)).length = d.length % 16 :=
    leftover_length (Nat.le_of_lt_succ (Nat.mod_lt _ (by decide)))
  refine List.ext_getElem (by rw [hlength, List.length_drop]; omega) fun i hi _ => ?_
  have hpending : i < d.length % 16 := hlength ▸ hi
  have hbyte := lbufByte_of_pending p (d := d) (i := ⟨i, by omega⟩) hpending
  simp only [leftover, plAfter, List.getElem_take, Vector.getElem_toList, Vector.getElem_ofFn, List.getElem_drop]
  rw [hbyte, List.getD_eq_getElem]

theorem polyFullBlock_append {d : List Byte} {j : Nat} (h : 16 * j + 16 ≤ d.length) (e : List Byte) :
    polyFullBlock (d ++ e) j = polyFullBlock d j := by
  rw [polyFullBlock, slice, List.drop_append_of_le_length (by omega), List.take_append_of_le_length (by simp; omega),
    polyFullBlock, slice]

/-- Blocks already complete do not change when bytes follow. -/
theorem polyAcc_append (r h : Nat) (d e : List Byte) {q : Nat} (hq : 16 * q ≤ d.length) :
    polyAcc r h (d ++ e) q = polyAcc r h d q := by
  induction q with
  | zero => rfl
  | succ q ih => rw [polyAcc, ih (by omega), polyFullBlock_append (by omega), polyAcc]

/-! ### One byte more (R181) -/

/-- The buffer's bytes once `b` is stored behind them: those of `d ++ [b]` past the last full block of `d`. -/
theorem getElem_stored (p : PL) (d : List Byte) (b : Byte) {i : Nat} (hi : i < 16) (hle : i ≤ d.length % 16) :
    ((plAfter p d).lbuf.setIfInBounds (d.length % 16) b)[i] = (d ++ [b]).getD (16 * (d.length / 16) + i) 0 := by
  rw [Vector.getElem_setIfInBounds]
  by_cases hlast : d.length % 16 = i
  · rw [if_pos hlast, show 16 * (d.length / 16) + i = d.length by omega]
    simp
  · rw [if_neg hlast, List.getD_append _ _ _ _ (by omega)]
    have hlt : i < d.length % 16 := Nat.lt_of_le_of_ne hle (Ne.symm hlast)
    exact (Vector.getElem_ofFn ..).trans (lbufByte_of_pending p (i := ⟨i, hi⟩) hlt)

/-- A byte that does not complete a block leaves the buffer past it alone. -/
theorem lbufByte_append_of_gt (p : PL) {d : List Byte} (b : Byte) {i : Fin 16} (hgt : d.length % 16 < i.val) :
    lbufByte p (d ++ [b]) i = lbufByte p d i := by
  simp only [lbufByte, List.length_append, List.length_singleton]
  by_cases hshort : d.length < 16
  · rw [if_pos hshort, if_pos (by omega), if_neg (by omega), if_neg (by omega)]
  · rw [if_neg hshort, if_neg (by omega), List.getD_eq_default _ _ (by simp; omega),
      List.getD_eq_default _ _ (by omega)]

/-- A byte that does not complete a block is stored. -/
theorem polyStore_plAfter (p : PL) {d : List Byte} (b : Byte) (hne : d.length % 16 + 1 ≠ 16) :
    polyStore b (plAfter p d) = plAfter p (d ++ [b]) := by
  have hdiv : (d ++ [b]).length / 16 = d.length / 16 := by rw [List.length_append, List.length_singleton]; omega
  have hmod : (d ++ [b]).length % 16 = d.length % 16 + 1 := by rw [List.length_append, List.length_singleton]; omega
  have hlbuf : (plAfter p d).lbuf.setIfInBounds (d.length % 16) b = Vector.ofFn (lbufByte p (d ++ [b])) := by
    refine Vector.ext fun i hi => ?_
    rw [Vector.getElem_ofFn]
    by_cases hle : i ≤ d.length % 16
    · rw [getElem_stored p d b hi hle, lbufByte_of_pending p (by simpa only [hmod] using Nat.lt_succ_of_le hle), hdiv]
    · rw [lbufByte_append_of_gt p b (Nat.lt_of_not_le hle),
        Vector.getElem_setIfInBounds_ne _ (Nat.ne_of_lt (Nat.lt_of_not_le hle))]
      exact Vector.getElem_ofFn ..
  rw [plAfter_eq hdiv hmod hlbuf.symm, polyAcc_append _ _ _ _ (Nat.mul_div_le ..)]
  rfl

/-- A byte that completes a block: the stored bytes are the block. -/
theorem stored_eq_slice (p : PL) {d : List Byte} (b : Byte) (h16 : d.length % 16 + 1 = 16) :
    ((plAfter p d).lbuf.setIfInBounds (d.length % 16) b).toList = slice (d ++ [b]) (16 * (d.length / 16)) 16 := by
  refine List.ext_getElem (by simp [slice]; omega) fun i hi _ => ?_
  rw [Vector.length_toList] at hi
  rw [Vector.getElem_toList, getElem_stored p d b hi (by omega), List.getD_eq_getElem _ _ (by simp; omega)]
  simp [slice]

/-- A byte that completes a block absorbs it, with the bit 2^128 (R181). -/
theorem polyFlush_plAfter (p : PL) {d : List Byte} (b : Byte) (h16 : d.length % 16 + 1 = 16) :
    polyFlush (polyHighBit + leint ((plAfter p d).lbuf.setIfInBounds (d.length % 16) b).toList)
      (polyStore b (plAfter p d)) = plAfter p (d ++ [b]) := by
  have hdiv : (d ++ [b]).length / 16 = d.length / 16 + 1 := by rw [List.length_append, List.length_singleton]; omega
  have hmod : (d ++ [b]).length % 16 = 0 := by rw [List.length_append, List.length_singleton]; omega
  have hlbuf : Vector.ofFn (lbufByte p (d ++ [b])) = Vector.replicate 16 0 := by
    refine Vector.ext fun i hi => ?_
    rw [Vector.getElem_ofFn, Vector.getElem_replicate, lbufByte, if_neg (by simp; omega),
      List.getD_eq_default _ _ (by simp; omega)]
  rw [stored_eq_slice p b h16, plAfter_eq hdiv hmod hlbuf, polyAcc, polyAcc_append _ _ _ _ (Nat.mul_div_le ..)]
  rfl

theorem polyAbsorb_plAfter (b : Byte) (p : PL) (d : List Byte) :
    polyAbsorb b (plAfter p d) = plAfter p (d ++ [b]) := by
  rcases polyAbsorb_cases b (plAfter p d) with ⟨hne, habsorb⟩ | ⟨h16, habsorb⟩
  · exact habsorb.trans (polyStore_plAfter p b hne)
  · exact habsorb.trans (polyFlush_plAfter p b h16)

/-! ### The command `PL_UPDATE` (R181) -/

/-- The body of the loop of `PL_UPDATE`. -/
def plUpdateByte (i : Nat) (s : State) : State := { s with pl := polyAbsorb (bufB s i) s.pl }

theorem plUpdateLoop (s : State) {p : PL} {d : List Byte} (hpl : s.pl = plAfter p d) (n : Nat) :
    forUpTo plUpdateByte n s = { s with pl := plAfter p (d ++ bytesOf n (bufB s)) } := by
  induction n with
  | zero => rw [forUpTo_zero, bytesOf, List.range_zero, List.map_nil, List.append_nil, ← hpl]
  | succ n ih =>
    rw [forUpTo_succ, ih, plUpdateByte, polyAbsorb_plAfter, bytesOf_succ, ← List.append_assoc]
    rfl

theorem execPlUpdate_of_invalid {s : State} (h : s.pl.valid = false) :
    exec .plUpdate s = .next (complete 0x21#8 .eState s) := if_pos h

theorem execPlUpdate_of_long {s : State} (hvalid : s.pl.valid = true) (h : 128 < s.len.toNat) :
    exec .plUpdate s = .next (complete 0x21#8 .eLen s) :=
  (if_neg (ne_false_of_eq_true hvalid)).trans (if_pos h)

/-- `PL_UPDATE` past its checks, from a context that has come to the byte string `d`. -/
theorem execPlUpdate_eq {s : State} {p : PL} {d : List Byte} (hpl : s.pl = plAfter p d) (hvalid : s.pl.valid = true)
    (hlen : s.len.toNat ≤ 128) :
    exec .plUpdate s = .next { s with
      code := .ok, lastop := 0x21#8, pl := plAfter p (d ++ bytesOf s.len.toNat (bufB s)) } := by
  have hexec : exec .plUpdate s = .next (complete 0x21#8 .ok (forUpTo plUpdateByte s.len.toNat s)) :=
    (if_neg (ne_false_of_eq_true hvalid)).trans (if_neg (Nat.not_lt.2 hlen))
  rw [hexec, complete_ok, plUpdateLoop s hpl]

theorem execPlUpdate_loadChunk {s : State} {p : PL} {m c : List Byte} (hpl : s.pl = plAfter p m)
    (hvalid : p.valid = true) (hc : c.length ≤ 128) :
    ∃ t, exec .plUpdate (loadChunk c s) = .next t ∧ t.pl = plAfter p (m ++ c) := by
  have hlen := loadChunk_len hc s
  have hbytes : bytesOf (loadChunk c s).len.toNat (bufB (loadChunk c s)) = c := by
    rw [hlen, bytesOf_congr fun j hj => bufB_loadChunk hj (hj.trans_le hc), bytesOf_getD]
  refine ⟨_, execPlUpdate_eq (s := loadChunk c s) hpl ((congrArg PL.valid hpl).trans hvalid) (hlen.trans_le hc), ?_⟩
  rw [hbytes]

/-- A sequence of `PL_UPDATE`s absorbs the bytes of its chunks behind the leftover ones. -/
theorem execPlUpdate_chunks {s : State} {cs : List (List Byte)} (hvalid : s.pl.valid = true) (hfill : s.pl.lfill ≤ 15)
    (hcs : ∀ c ∈ cs, c.length ≤ 128) :
    ∃ u, execChunks .plUpdate cs s = .next u ∧ u.pl = plAfter s.pl (leftover s.pl ++ cs.flatten) :=
  execChunks_invariant (P := fun m u => u.pl = plAfter s.pl m)
    (fun _ _ _ hc hu => execPlUpdate_loadChunk hu hvalid hc) cs hcs (plAfter_leftover hfill).symm

/-! ### The last block and the tag (R182, R188, R189) -/

theorem leint_polyLastBlock (p : PL) :
    leint (polyLastBlock p) = leint (leftover p) + 2 ^ (8 * (leftover p).length) := by
  rw [polyLastBlock, List.append_assoc, leint_append, List.singleton_append, leint, leint_replicate_zero]
  simp [leftover]

theorem polyPad_h (p : PL) :
    (polyPad p).h = if p.lfill = 0 then p.h
      else polyStep p.r.toNat p.h (leint (leftover p) + 2 ^ (8 * (leftover p).length)) := by
  unfold polyPad
  by_cases hfill : p.lfill = 0
  · rw [if_neg (by omega), if_pos hfill]
  · rw [if_pos (by omega), if_neg hfill, polyBlock, leint_polyLastBlock]

theorem polyPad_pad (p : PL) : (polyPad p).pad = p.pad := by
  unfold polyPad
  split <;> rfl

theorem execPlFinish_of_invalid {s : State} (h : s.pl.valid = false) :
    exec .plFinish s = .next (complete 0x22#8 .eState s) := if_pos h

/-- `PL_FINISH` past its check. -/
theorem execPlFinish_eq {s : State} (hvalid : s.pl.valid = true) :
    exec .plFinish s = .next { s with
      code := .ok, lastop := 0x22#8, tag := tagWords (polyTag (polyPad s.pl)), auth := { ok := false, fail := false },
      pl := { PL.zero with link := s.pl.link, done := true } } := by
  refine (if_neg (ne_false_of_eq_true hvalid)).trans ?_
  rw [endWith_eq, complete_ok]
  rfl

theorem bytesOf_polyTag (p : PL) :
    bytesOf 16 (arrayByte (tagWords (polyTag (polyPad p)))) = stint 16 ((polyPad p).h + p.pad.toNat) := by
  rw [polyTag, bytesOf_tagWords, polyPad_pad]

/-! ### The whole message (R185, R193) -/

/-- After the whole message the padded accumulator is the one of R185, R186. -/
theorem polyPad_plAfter_h {p : PL} (hp : p.h = 0) (m : List Byte) :
    (polyPad (plAfter p m)).h = polyHash p.r.toNat m := by
  have hfill : (plAfter p m).lfill = m.length % 16 := rfl
  have hlength : (m.drop (16 * (m.length / 16))).length = m.length % 16 := by rw [List.length_drop]; omega
  rw [polyPad_h, hfill, leftover_plAfter, hlength]
  simp only [polyHash, plAfter, hp, polyPartialBlock]
  by_cases hmod : m.length % 16 = 0
  · rw [if_pos hmod, if_neg (by omega)]
  · rw [if_neg hmod, if_pos (by omega)]

/-- `Σ_{j<q} n_j · r^(q−j)`, the sum of R193 over the first `q` blocks. -/
def powerSum (r : Nat) (n : Nat → Nat) (q : Nat) : Nat := ((List.range q).map fun j => n j * r ^ (q - j)).sum

theorem polySum_eq_powerSum (r : Nat) (m : List Byte) :
    polySum r m = powerSum r (polyBlockValue m) (polyBlockCount m) := rfl

/-- One block more multiplies the whole sum by `r` (Horner). -/
theorem powerSum_succ (r : Nat) (n : Nat → Nat) (q : Nat) :
    powerSum r n (q + 1) = (powerSum r n q + n q) * r := by
  have hshift : (List.range q).map (fun j => n j * r ^ (q + 1 - j)) =
      (List.range q).map (fun j => n j * r ^ (q - j) * r) := by
    refine List.map_congr_left fun j hj => ?_
    rw [Nat.succ_sub (List.mem_range.1 hj).le, pow_succ, mul_assoc]
  rw [powerSum, List.range_succ, List.map_append, List.sum_append, hshift, List.sum_map_mul_right, powerSum]
  simp [Nat.add_mul]

/-- A block step on a residue is a block step of the sum. -/
theorem polyStep_powerSum (r : Nat) (n : Nat → Nat) (q : Nat) :
    polyStep r (powerSum r n q % Config.polyP) (n q) = powerSum r n (q + 1) % Config.polyP := by
  rw [polyStep, powerSum_succ, Nat.mul_mod, Nat.mod_add_mod, ← Nat.mul_mod]

theorem polyAcc_eq_powerSum (r : Nat) (m : List Byte) {q : Nat} (hq : 16 * q ≤ m.length) :
    polyAcc r 0 m q = powerSum r (polyBlockValue m) q % Config.polyP := by
  induction q with
  | zero => rfl
  | succ q ih =>
    have hblock : polyBlockValue m q = polyFullBlock m q := if_pos hq
    rw [polyAcc, ih (by omega), ← hblock, polyStep_powerSum]

theorem polyHash_eq_polySum (r : Nat) (m : List Byte) : polyHash r m = polySum r m % Config.polyP := by
  rw [polySum_eq_powerSum]
  simp only [polyHash, polyAcc_eq_powerSum r m (Nat.mul_div_le ..)]
  by_cases hmod : m.length % 16 = 0
  · rw [if_neg (by omega), polyBlockCount, show (m.length + 15) / 16 = m.length / 16 by omega]
  · have hlast : polyBlockValue m (m.length / 16) = polyPartialBlock m := if_neg (by omega)
    rw [if_pos (by omega), ← hlast, polyStep_powerSum, polyBlockCount,
      show (m.length + 15) / 16 = m.length / 16 + 1 by omega]

/-! ### The command `PL_INIT` (R180, R184) -/

/-- A 16-byte integer fits `pl.pad`. -/
theorem ofNat_leint_toNat (f : Nat → Byte) :
    (BitVec.ofNat 128 (leint (bytesOf 16 f))).toNat = leint (bytesOf 16 f) := by
  have hlt := leint_lt (bytesOf 16 f)
  rw [bytesOf_length] at hlt
  rw [BitVec.toNat_ofNat, Nat.mod_eq_of_lt hlt]

theorem polyLoad_keyB (s : State) :
    polyLoad (bytesOf 32 (keyB s)) =
      { valid := true, done := false, link := false, h := 0, lfill := 0, lbuf := Vector.replicate 16 0
        r := clamp (BitVec.ofNat 128 (leint (bytesOf 16 (keyB s))))
        pad := BitVec.ofNat 128 (leint (bytesOf 16 fun j => keyB s (16 + j))) } := by
  rw [polyLoad, take_bytesOf (by decide), drop_bytesOf 16 16, take_bytesOf (Nat.le_refl 16)]

theorem leftover_polyLoad (k : List Byte) : leftover (polyLoad k) = [] := rfl

theorem execPlInit_of_keylen {s : State} (h : s.klen.toNat = 32) :
    exec .plInit s = .next { s with
      code := .ok, lastop := 0x20#8, key := Vector.replicate 16 0, tag := Vector.replicate 4 0,
      auth := { ok := false, fail := false }, pl := polyLoad (bytesOf 32 (keyB s)) } := by
  refine (if_neg (not_not.2 h)).trans ?_
  rw [endWith_eq, complete_ok]
  rfl

/-! ### The command `PL_VERIFY` (R191) -/

/-- The accumulated difference is zero exactly on equal tags (R192). -/
theorem tagDiff_eq_zero_iff (a b : Vector Word 4) : tagDiff a b = 0#32 ↔ a = b := by
  rw [tagDiff, BitVec.or_eq_zero_iff, BitVec.or_eq_zero_iff, BitVec.or_eq_zero_iff]
  simp only [BitVec.xor_eq_zero_iff]
  constructor
  · rintro ⟨⟨⟨h0, h1⟩, h2⟩, h3⟩
    refine Vector.ext fun i hi => ?_
    match i, hi with
    | 0, _ => exact h0
    | 1, _ => exact h1
    | 2, _ => exact h2
    | 3, _ => exact h3
  · rintro rfl
    exact ⟨⟨⟨rfl, rfl⟩, rfl⟩, rfl⟩

/-- Past its two checks `PL_VERIFY` decides by the difference. -/
theorem execPlVerify_of_checked {s : State} (hdone : s.pl.done = true) (hlen : s.xtlen.toNat = 16) :
    exec .plVerify s =
      if s.tag = s.xtag then
        .next (complete 0x23#8 .ok { s with
          auth := { ok := true, fail := false },
          cc := { s.cc with gate := if s.pl.link = true then false else s.cc.gate } })
      else
        .next (complete 0x23#8 .eAuth { s with
          pl := PL.zero, tag := Vector.replicate 4 0, auth := { ok := false, fail := true },
          cc := if s.pl.link = true then CC.zero else s.cc }) := by
  refine (if_neg (ne_false_of_eq_true hdone)).trans ((if_neg (not_not.2 hlen)).trans ?_)
  simp only [tagDiff_eq_zero_iff, endWith_eq]
  by_cases hlink : s.pl.link = true
  · simp only [if_pos hlink]
    rfl
  · simp only [if_neg hlink]
    rfl

/-! ### The obligations -/

/-- Settles O38: every chunk takes the context of the bytes so far to that of the bytes with it; the last block makes it
the hash of the whole message, which is the sum of R193 by Horner's rule. -/
theorem poly1305OfAnyChunking : Obligations.Poly1305OfAnyChunking := by
  unfold Obligations.Poly1305OfAnyChunking
  intro s cs hkey hcs
  obtain ⟨t, hinit, hload⟩ : ∃ t, exec .plInit s = .next t ∧ t.pl = polyLoad (bytesOf 32 (keyB s)) :=
    ⟨_, execPlInit_of_keylen hkey, rfl⟩
  obtain ⟨u, hu, hpl⟩ := execPlUpdate_chunks (congrArg PL.valid hload) (by rw [hload]; exact Nat.zero_le 15) hcs
  rw [hload, leftover_polyLoad, List.nil_append] at hpl
  refine ⟨t, u, _, hinit, hu, execPlFinish_eq (congrArg PL.valid hpl), rfl, (bytesOf_polyTag u.pl).trans ?_⟩
  rw [hpl, polyPad_plAfter_h rfl, polyHash_eq_polySum, plAfter_pad, polyLoad_keyB, ofNat_leint_toNat, Config.polyP]

/-- Settles O36: the loop runs from the context of the leftover bytes. -/
theorem plUpdateAbsorbsBytes : Obligations.PlUpdateAbsorbsBytes := by
  unfold Obligations.PlUpdateAbsorbsBytes
  refine ⟨rfl, fun s d hd => ⟨fun hvalid hlen hfill => ?_, execPlUpdate_of_invalid, execPlUpdate_of_long⟩⟩
  rw [hd]
  exact execPlUpdate_eq (plAfter_leftover hfill).symm hvalid hlen

/-- Settles O37: the last block is the leftover bytes and the byte 0x01, as an integer. -/
theorem plFinishWritesTag : Obligations.PlFinishWritesTag := by
  unfold Obligations.PlFinishWritesTag
  refine ⟨rfl, fun s => ⟨fun hvalid hfill => ?_, execPlFinish_of_invalid⟩⟩
  refine ⟨_, execPlFinish_eq hvalid, rfl, (bytesOf_polyTag s.pl).trans ?_⟩
  rw [polyPad_h, leftover_length hfill]
  rfl

/-- Settles O39: the two checks of R191 in their order, after which the difference decides. -/
theorem plVerifyDecides : Obligations.PlVerifyDecides := by
  unfold Obligations.PlVerifyDecides
  refine ⟨rfl, fun s => ⟨fun hdone hlen htag => ?_, fun hdone hlen htag => ?_, fun hdone => if_pos hdone,
    fun hdone hlen => ?_⟩⟩
  · rw [execPlVerify_of_checked hdone hlen, if_pos htag, complete_ok]
  · rw [execPlVerify_of_checked hdone hlen, if_neg htag]
    rfl
  · exact (if_neg (ne_false_of_eq_true hdone)).trans (if_pos hlen)

/-- Settles O35: the check of R180 comes after the context and `KEY` are cleared. -/
theorem plInitLoadsKey : Obligations.PlInitLoadsKey := by
  unfold Obligations.PlInitLoadsKey
  refine ⟨rfl, fun s => ⟨fun hkey => ?_, fun hkey => if_pos hkey⟩⟩
  rw [execPlInit_of_keylen hkey, polyLoad_keyB]
  rfl

end Sys2Proof.Proofs
end

section
/-! AEAD (43_aead.md): the writers of the gate and of the link (R211, R212), what a closed gate holds fast (R217), and
the one-time key and the keystream that `CC_POLYKEY` prepares (R210, R216). The claims about steps rest on one inversion
of the step: only a command the decoder accepts, or reset, writes the state of the engines. -/

namespace Sys2Proof.Proofs

open Sys2Proof.Machine

/-! ### What one step can do to the engines (00_scope.md R9, 20_memory.md R76, R77) -/

/-- The state that no register write reaches: the four contexts, the authentication flags, `TAG` and `DIGEST`. -/
def engines (s : State) : CC × PL × B2 × XS × Auth × Vector Word 4 × Vector Word 16 :=
  (s.cc, s.pl, s.b2, s.xs, s.auth, s.tag, s.digest)

theorem engines_regWrite (s : State) (v : Word) (r : Reg) : engines (regWrite s v r) = engines s := by
  cases r with
  | buf i => simp only [regWrite, setBufWord_eq, engines]
  | _ => rfl

/-- Everything one step can be. -/
inductive StepKind (s t : State) : Prop where
  /-- no transaction is pending -/
  | idle (hpending : s.pending = []) (hsame : t = s)
  /-- a read, a write of a register, a bus error, an illegal word: the engines stay as they are -/
  | bus (e : HostEvent) (rest : List HostEvent) (hpending : s.pending = e :: rest) (hrest : t.pending = rest)
      (hengines : engines t = engines s)
  /-- reset (R330) -/
  | reset (rest : List HostEvent) (hpending : s.pending = .reset :: rest) (hreset : t = resetDevice (takeEvent rest s))
  /-- a command word, in the state that has the write answered and no longer pending (R100) -/
  | command (w : Word) (i : Instr) (rest : List HostEvent) (hpending : s.pending = .write 0x004 4 w :: rest)
      (hdecode : decode w = .ok i) (hexec : exec i (respond .written (takeEvent rest s)) = .next t)

theorem stepKind_of_read {off size : Nat} {rest : List HostEvent} {s t : State}
    (hpending : s.pending = .read off size :: rest)
    (h : transact (.read off size) (takeEvent rest s) = .next t) : StepKind s t := by
  cases h
  obtain ⟨-, hread⟩ | ⟨r, -, hread⟩ := memRead_cases off size (takeEvent rest s) <;> rw [hread] <;>
    exact .bus _ rest hpending rfl rfl

theorem stepKind_of_write {off size : Nat} {v : Word} {rest : List HostEvent} {s t : State}
    (hpending : s.pending = .write off size v :: rest)
    (h : transact (.write off size v) (takeEvent rest s) = .next t) : StepKind s t := by
  obtain ⟨-, hw⟩ | ⟨htarget, hw⟩ | ⟨r, -, -, hw⟩ := memWrite_cases off size v (takeEvent rest s)
  · cases hw.symm.trans h
    exact .bus _ rest hpending rfl rfl
  · obtain ⟨rfl, rfl⟩ := regOffset_of_accessTarget htarget
    obtain ⟨i, hdecode, hrun⟩ | ⟨e, -, hrun⟩ := runCommand_cases v (respond .written (takeEvent rest s))
    · exact .command v i rest hpending hdecode (hrun.symm.trans (hw.symm.trans h))
    · cases hrun.symm.trans (hw.symm.trans h)
      exact .bus _ rest hpending rfl rfl
  · cases hw.symm.trans h
    rw [regWrite_takeEvent]
    exact .bus _ rest hpending rfl (engines_regWrite s v r)

theorem step_kind {s t : State} (h : step s = .next t) : StepKind s t := by
  obtain ⟨hpending, hstep⟩ | ⟨e, rest, hpending, hstep⟩ := step_cases s
  · cases hstep.symm.trans h
    exact .idle hpending rfl
  · have htransact := hstep.symm.trans h
    cases e with
    | read off size => exact stepKind_of_read hpending htransact
    | write off size v => exact stepKind_of_write hpending htransact
    | reset =>
      cases htransact
      exact .reset rest hpending rfl

theorem pending_of_exec {i : Instr} {s t : State} (h : exec i s = .next t) : t.pending = s.pending :=
  exec_keeps (p := State.pending) (fun _ => by cases i <;> rfl) h

theorem pending_of_step {s t : State} (h : step s = .next t) : t.pending = s.pending.tail := by
  cases step_kind h with
  | idle hpending hsame => rw [hsame, hpending, List.tail_nil]
  | bus e rest hpending hrest _ => rw [hrest, hpending, List.tail_cons]
  | reset rest hpending hreset => rw [hreset, hpending, List.tail_cons]; rfl
  | command w i rest hpending _ hexec => rw [pending_of_exec hexec, hpending, List.tail_cons]; rfl

/-! ### The command `CC_POLYKEY` (R210) -/

theorem polykeyArgLegal_of_extract {arg : Byte} (h : arg.extractLsb' 1 7 = 0#7) : polykeyArgLegal arg = true :=
  beq_iff_eq.2 h

theorem execCcPolykey_of_invalid {arg : Byte} {s : State} (harg : polykeyArgLegal arg = true)
    (hvalid : s.cc.valid = false) : exec (.ccPolykey arg) s = .next (complete 0x13#8 .eState s) :=
  (if_neg (ne_false_of_eq_true harg)).trans (if_pos hvalid)

theorem execCcPolykey_of_valid {arg : Byte} {s : State} (harg : polykeyArgLegal arg = true)
    (hvalid : s.cc.valid = true) :
    exec (.ccPolykey arg) s = .next { s with
      code := .ok, lastop := 0x13#8, tag := Vector.replicate 4 0, auth := { ok := false, fail := false }
      pl := { polyLoad ((ccBlock (s.cc.st.set 12 0)).toList.take 32) with link := true }
      cc := { s.cc with
        st := s.cc.st.set 12 1, blk := Vector.replicate 64 0, avail := 0, gate := arg.getLsbD 0 } } := by
  refine (if_neg (ne_false_of_eq_true harg)).trans ((if_neg (ne_false_of_eq_true hvalid)).trans ?_)
  rw [endWith_eq, complete_ok]
  rfl

/-- `PolyLoad` reads the first 32 bytes only. -/
theorem polyLoad_take (k : List Byte) : polyLoad (k.take 32) = polyLoad k := by
  simp [polyLoad, List.take_take, List.drop_take]

/-- The command changes neither context, or completes `OK` and writes gate and link. -/
theorem gate_link_of_execCcPolykey {arg : Byte} {s t : State} (h : exec (.ccPolykey arg) s = .next t) :
    (t.cc = s.cc ∧ t.pl = s.pl) ∨ (t.code = .ok ∧ t.cc.gate = arg.getLsbD 0 ∧ t.pl.link = true) :=
  leaves_ite (P := fun t => (t.cc = s.cc ∧ t.pl = s.pl) ∨
      (t.code = .ok ∧ t.cc.gate = arg.getLsbD 0 ∧ t.pl.link = true))
    (leaves_endWith (.inl ⟨rfl, rfl⟩))
    (leaves_ite (leaves_endWith (.inl ⟨rfl, rfl⟩)) (leaves_endWith (.inr ⟨rfl, rfl, rfl⟩))) t h

/-! ### The other writers (R211, R212) -/

section
variable {s t : State}

/-- `CC_INIT` leaves the gate open on every path (R160). -/
theorem gate_of_execCcInit (h : exec .ccInit s = .next t) : t.cc.gate = false :=
  leaves_ite (P := fun t => t.cc.gate = false) (leaves_endWith rfl)
    (leaves_ite (leaves_endWith rfl) (leaves_endWith rfl)) t h

/-- `PL_INIT` drops the link on every path (R180). -/
theorem link_of_execPlInit (h : exec .plInit s = .next t) : t.pl.link = false :=
  leaves_ite (P := fun t => t.pl.link = false) (leaves_endWith rfl) (leaves_endWith rfl) t h

/-- `PL_FINISH` passes the link on to the tag (R182). -/
theorem link_of_execPlFinish (h : exec .plFinish s = .next t) : t.pl.link = s.pl.link := by
  cases hvalid : s.pl.valid with
  | false =>
    cases (execPlFinish_of_invalid hvalid).symm.trans h
    rfl
  | true =>
    cases (execPlFinish_eq hvalid).symm.trans h
    rfl

theorem cc_of_execZeroize {arg : Byte} (h : exec (.zeroize arg) s = .next t) :
    t.cc = s.cc ∨ arg.getLsbD 0 = true ∧ t.cc = CC.zero := by
  refine leaves_ite (P := fun t => t.cc = s.cc ∨ arg.getLsbD 0 = true ∧ t.cc = CC.zero)
    (leaves_endWith (.inl rfl)) (leaves_endWith ?_) t h
  rw [complete_cc, zeroizeMask_eq]
  by_cases h0 : argMaskBit arg 0 = true
  · exact .inr ⟨h0, if_pos h0⟩
  · exact .inl (if_neg h0)

theorem pl_of_execZeroize {arg : Byte} (h : exec (.zeroize arg) s = .next t) :
    t.pl = s.pl ∨ (arg.getLsbD 0 = true ∨ arg.getLsbD 1 = true) ∧ t.pl.link = false := by
  refine leaves_ite
    (P := fun t => t.pl = s.pl ∨ (arg.getLsbD 0 = true ∨ arg.getLsbD 1 = true) ∧ t.pl.link = false)
    (leaves_endWith (.inl rfl)) (leaves_endWith ?_) t h
  rw [complete_pl, zeroizeMask_eq]
  by_cases h1 : argMaskBit arg 1 = true
  · exact .inr ⟨.inr h1, congrArg PL.link (if_pos h1)⟩
  · by_cases h0 : argMaskBit arg 0 = true
    · exact .inr ⟨.inl h0, congrArg PL.link ((if_neg h1).trans (if_pos h0))⟩
    · exact .inl ((if_neg h1).trans (if_neg h0))

/-- While linked, either outcome of the comparison leaves the gate open: the match opens it, the mismatch destroys the
context (R191). -/
theorem gate_of_linked_verify (hlink : s.pl.link = true) (h : exec .plVerify s = .next t) :
    t.cc = s.cc ∨ (t.code = .ok ∨ t.code = .eAuth) ∧ t.cc.gate = false :=
  execPlVerify_leaves (P := fun t => t.cc = s.cc ∨ (t.code = .ok ∨ t.code = .eAuth) ∧ t.cc.gate = false)
    (.inl rfl) (.inl rfl) (.inr ⟨.inl rfl, congrArg CC.gate (if_pos hlink)⟩)
    (.inr ⟨.inr rfl, congrArg CC.gate (if_pos hlink)⟩) t h

/-- Only a mismatch writes the Poly1305 context (R191). -/
theorem link_of_execPlVerify (h : exec .plVerify s = .next t) :
    t.pl = s.pl ∨ t.code = .eAuth ∧ t.pl.link = false :=
  execPlVerify_leaves (P := fun t => t.pl = s.pl ∨ t.code = .eAuth ∧ t.pl.link = false)
    (.inl rfl) (.inl rfl) (.inl rfl) (.inr ⟨rfl, rfl⟩) t h

end

/-! ### The writers of the gate (R211) -/

/-- The commands that write `cc.gate`, each with what it leaves there. -/
inductive GateWrite (s t : State) : Instr → Prop where
  /-- `CC_INIT`, failed or not (R160) -/
  | ccInit (hgate : t.cc.gate = false) : GateWrite s t .ccInit
  /-- `ZEROIZE` with `CC` (R281) -/
  | zeroize (arg : Byte) (hmask : arg.getLsbD 0 = true) (hgate : t.cc.gate = false) : GateWrite s t (.zeroize arg)
  /-- a successful `CC_POLYKEY` (R210) -/
  | ccPolykey (arg : Byte) (hok : t.code = .ok) (hgate : t.cc.gate = arg.getLsbD 0) : GateWrite s t (.ccPolykey arg)
  /-- a `PL_VERIFY` that compares the tags, while linked (R191) -/
  | plVerify (hlink : s.pl.link = true) (hcode : t.code = .ok ∨ t.code = .eAuth) (hgate : t.cc.gate = false) :
      GateWrite s t .plVerify

theorem gateWrite_of_execPlVerify {s t : State} (h : exec .plVerify s = .next t) (hne : t.cc.gate ≠ s.cc.gate) :
    GateWrite s t .plVerify := by
  cases hlink : s.pl.link with
  | false => exact absurd (congrArg CC.gate (cc_of_unlinked_verify hlink h)) hne
  | true =>
    obtain hsame | ⟨hcode, hgate⟩ := gate_of_linked_verify hlink h
    · exact absurd (congrArg CC.gate hsame) hne
    · exact .plVerify hlink hcode hgate

theorem gateWrite_of_exec {i : Instr} {s t : State} (h : exec i s = .next t) (hne : t.cc.gate ≠ s.cc.gate) :
    GateWrite s t i := by
  cases i with
  | ccInit => exact .ccInit (gate_of_execCcInit h)
  | zeroize arg =>
    obtain hsame | ⟨hmask, hzero⟩ := cc_of_execZeroize h
    · exact absurd (congrArg CC.gate hsame) hne
    · exact .zeroize arg hmask (congrArg CC.gate hzero)
  | ccPolykey arg =>
    obtain ⟨hsame, -⟩ | ⟨hok, hgate, -⟩ := gate_link_of_execCcPolykey h
    · exact absurd (congrArg CC.gate hsame) hne
    · exact .ccPolykey arg hok hgate
  | plVerify => exact gateWrite_of_execPlVerify h hne
  | ccXor => exact absurd (exec_keeps (p := (·.cc.gate)) (fun _ => rfl) h) hne
  | _ => exact absurd (congrArg CC.gate (cc_of_exec (by simp) (by decide) (by simp) h)) hne

/-! ### The writers of the link (R212) -/

/-- The commands that write `pl.link`, each with what it leaves there. -/
inductive LinkWrite (t : State) : Instr → Prop where
  /-- `CC_INIT`, failed or not (R160) -/
  | ccInit (hlink : t.pl.link = false) : LinkWrite t .ccInit
  /-- `PL_INIT`, failed or not (R180) -/
  | plInit (hlink : t.pl.link = false) : LinkWrite t .plInit
  /-- `ZEROIZE` with `CC` or `PL` (R281) -/
  | zeroize (arg : Byte) (hmask : arg.getLsbD 0 = true ∨ arg.getLsbD 1 = true) (hlink : t.pl.link = false) :
      LinkWrite t (.zeroize arg)
  /-- a successful `CC_POLYKEY` (R210) -/
  | ccPolykey (arg : Byte) (hok : t.code = .ok) (hlink : t.pl.link = true) : LinkWrite t (.ccPolykey arg)
  /-- a mismatching `PL_VERIFY` (R191) -/
  | plVerify (hcode : t.code = .eAuth) (hlink : t.pl.link = false) : LinkWrite t .plVerify

theorem linkWrite_of_exec {i : Instr} {s t : State} (h : exec i s = .next t) (hne : t.pl.link ≠ s.pl.link) :
    LinkWrite t i := by
  cases i with
  | ccInit => exact .ccInit (congrArg PL.link (pl_of_execCcInit h))
  | plInit => exact .plInit (link_of_execPlInit h)
  | zeroize arg =>
    obtain hsame | ⟨hmask, hlink⟩ := pl_of_execZeroize h
    · exact absurd (congrArg PL.link hsame) hne
    · exact .zeroize arg hmask hlink
  | ccPolykey arg =>
    obtain ⟨-, hsame⟩ | ⟨hok, -, hlink⟩ := gate_link_of_execCcPolykey h
    · exact absurd (congrArg PL.link hsame) hne
    · exact .ccPolykey arg hok hlink
  | plVerify =>
    obtain hsame | ⟨hcode, hlink⟩ := link_of_execPlVerify h
    · exact absurd (congrArg PL.link hsame) hne
    · exact .plVerify hcode hlink
  | plUpdate => exact absurd (congrArg PL.link (pl_of_execPlUpdate h)) hne
  | plFinish => exact absurd (link_of_execPlFinish h) hne
  | _ => exact absurd (congrArg PL.link (pl_of_exec (by simp) (by decide) (by simp) h)) hne

/-! ### The closed gate (R211, R217) -/

/-- A command word that is none of the four openers and destroyers leaves a gated context alone: `CC_XOR`, the only
other command that writes `cc`, completes `E_GATED`. -/
theorem cc_of_gated_exec {w : Word} {i : Instr} {s t : State} (hvalid : s.cc.valid = true) (hgate : s.cc.gate = true)
    (hdecode : decode w = .ok i) (huntouched : touchesGatedContext (.write 0x004 4 w) = false)
    (h : exec i s = .next t) : t.cc = s.cc := by
  simp only [touchesGatedContext, hdecode] at huntouched
  cases i with
  | ccInit | ccPolykey | plVerify => cases huntouched
  | zeroize arg => exact (execZeroize_maskFrame arg s t h).1 huntouched
  | ccXor =>
    cases (execCcXor_of_gated hvalid hgate).symm.trans h
    rfl
  | _ => exact cc_of_exec (by simp) (by decide) (by simp) h

theorem cc_of_gated_step {s t : State} (hvalid : s.cc.valid = true) (hgate : s.cc.gate = true)
    (huntouched : ∀ e rest, s.pending = e :: rest → touchesGatedContext e = false) (h : step s = .next t) :
    t.cc = s.cc := by
  cases step_kind h with
  | idle _ hsame => rw [hsame]
  | bus _ _ _ _ hengines => exact congrArg Prod.fst hengines
  | reset rest hpending _ => cases huntouched _ rest hpending
  | command w i rest hpending hdecode hexec =>
    exact cc_of_gated_exec (s := respond .written (takeEvent rest s)) hvalid hgate hdecode
      (huntouched _ rest hpending) hexec

/-! ### Words of a byte string (30_encoding.md R108, 40_primitives.md R132) -/

theorem bytesOf_four_mul_succ (n : Nat) (f : Nat → Byte) :
    bytesOf (4 * (n + 1)) f = f 0 :: f 1 :: f 2 :: f 3 :: bytesOf (4 * n) fun j => f (j + 4) := by
  simp [bytesOf, Nat.mul_succ, List.range_succ_eq_map, Function.comp_def]

theorem wordsOf_bytesOf (n : Nat) (f : Nat → Byte) :
    wordsOf (bytesOf (4 * n) f) =
      (List.range n).map fun i => le32 (f (4 * i)) (f (4 * i + 1)) (f (4 * i + 2)) (f (4 * i + 3)) := by
  induction n generalizing f with
  | zero => rfl
  | succ n ih =>
    rw [bytesOf_four_mul_succ, wordsOf, ih, List.range_succ_eq_map, List.map_cons, List.map_map]
    rfl

/-- Byte `j` of word `i` of a register array (20_memory.md R72). -/
theorem arrayByte_word {n : Nat} (a : Vector Word n) {i j : Nat} (hi : i < n) (hj : j < 4) :
    arrayByte a (4 * i + j) = wordByte a[i] j := by
  rw [arrayByte, show (4 * i + j) / 4 = i by omega, show (4 * i + j) % 4 = j by omega]
  simp [Vector.getD, hi]

/-- The words of the first bytes of a register array are its first words. -/
theorem wordsOf_arrayByte {m n : Nat} (a : Vector Word n) {i : Nat} (him : i < m) (hin : i < n) :
    (wordsOf (bytesOf (4 * m) (arrayByte a))).getD i 0 = a[i] := by
  have hfirst : arrayByte a (4 * i) = wordByte a[i] 0 := arrayByte_word a hin (j := 0) (by decide)
  have hword : le32 (arrayByte a (4 * i)) (arrayByte a (4 * i + 1)) (arrayByte a (4 * i + 2))
      (arrayByte a (4 * i + 3)) = a[i] := by
    rw [hfirst, arrayByte_word a hin (by decide), arrayByte_word a hin (by decide), arrayByte_word a hin (by decide),
      le32_wordByte]
  simp [wordsOf_bytesOf, him, hword]

/-! ### The input state of the AEAD (R162, R216) -/

/-- From `KEY` and `NONCE`, by words as `CC_INIT` does and by bytes as the AEAD functions do. -/
theorem ccStateOf_registers (s : State) (ctr : Word) :
    ccStateOf (bytesOf 32 (keyB s)) ctr (bytesOf 12 (nonceB s)) =
      ccState (keyWords s) ctr s.nonce[0] s.nonce[1] s.nonce[2] := by
  have hkey : (Vector.ofFn fun i : Fin 8 => (wordsOf (bytesOf 32 (keyB s))).getD i.val 0) = keyWords s :=
    congrArg Vector.ofFn (funext fun i => wordsOf_arrayByte (m := 8) s.key i.isLt (by omega))
  have hnonce {i : Nat} (hi : i < 3) : (wordsOf (bytesOf 12 (nonceB s))).getD i 0 = s.nonce[i] :=
    wordsOf_arrayByte (m := 3) s.nonce hi (by omega)
  rw [ccStateOf, hkey, hnonce (i := 0) (by decide), hnonce (i := 1) (by decide), hnonce (i := 2) (by decide)]

theorem ccState_set_counter (k : Vector Word 8) (c d n0 n1 n2 : Word) :
    (ccState k c n0 n1 n2).set 12 d = ccState k d n0 n1 n2 := rfl

theorem ccAdvance_ccState (k : Vector Word 8) (c n0 n1 n2 : Word) (m : Nat) :
    ccAdvance (ccState k c n0 n1 n2) m = ccState k (c + BitVec.ofNat 32 m) n0 n1 n2 := rfl

/-- The keystream of a context with nothing left in its block buffer starts at the block of its counter. -/
theorem ccKeystream_of_spent {c : CC} (h : c.avail = 0) (i : Nat) :
    ccKeystream c i = (ccBlock (ccAdvance c.st (i / 64))).getD (i % 64) 0 := by
  rw [ccKeystream, h, if_neg (Nat.not_lt_zero i), Nat.sub_zero]

/-- `CC_INIT` past its checks, with the input state by `CCState` (R160, R162). -/
theorem execCcInit_of_lengths {s : State} (hkey : s.klen.toNat = 32) (hnonce : s.nlen.toNat = 12) :
    exec .ccInit s = .next { s with
      code := .ok, lastop := 0x10#8, key := Vector.replicate 16 0, pl := { s.pl with link := false }
      cc := {
        valid := true, gate := false, avail := 0, blk := Vector.replicate 64 0
        st := ccState (keyWords s) s.ctr s.nonce[0] s.nonce[1] s.nonce[2] } } := by
  obtain ⟨-, hinit⟩ := ccInitBuildsContext
  exact (hinit s).1 hkey hnonce

/-! ### The obligations -/

/-- Settles O32: of the kinds of a step only reset and a command write the gate, and the command is one of four. -/
theorem gateChangesOnlyByItsWriters : Obligations.GateChangesOnlyByItsWriters := by
  unfold Obligations.GateChangesOnlyByItsWriters
  intro s t hstep hne
  cases step_kind hstep with
  | idle _ hsame => exact absurd (congrArg (·.cc.gate) hsame) hne
  | bus _ _ _ _ hengines => exact absurd (congrArg (·.1.gate) hengines) hne
  | reset rest hpending hreset => exact .inl ⟨⟨rest, hpending⟩, congrArg (·.cc.gate) hreset⟩
  | command w i rest hpending hdecode hexec =>
    refine .inr ⟨w, rest, hpending, ?_⟩
    cases gateWrite_of_exec hexec hne with
    | ccInit hgate => exact .inl ⟨hdecode, hgate⟩
    | zeroize arg hmask hgate => exact .inr (.inl ⟨arg, hdecode, hmask, hgate⟩)
    | ccPolykey arg hok hgate => exact .inr (.inr (.inl ⟨arg, hdecode, hok, hgate⟩))
    | plVerify hlink hcode hgate => exact .inr (.inr (.inr ⟨hdecode, hlink, hcode, hgate⟩))

/-- Settles O33: of the kinds of a step only reset and a command write the link, and the command is one of five. -/
theorem linkChangesOnlyByItsWriters : Obligations.LinkChangesOnlyByItsWriters := by
  unfold Obligations.LinkChangesOnlyByItsWriters
  intro s t hstep hne
  cases step_kind hstep with
  | idle _ hsame => exact absurd (congrArg (·.pl.link) hsame) hne
  | bus _ _ _ _ hengines => exact absurd (congrArg (·.2.1.link) hengines) hne
  | reset rest hpending hreset => exact .inl ⟨⟨rest, hpending⟩, congrArg (·.pl.link) hreset⟩
  | command w i rest hpending hdecode hexec =>
    refine .inr ⟨w, rest, hpending, ?_⟩
    cases linkWrite_of_exec hexec hne with
    | ccInit hlink => exact .inl ⟨hdecode, hlink⟩
    | plInit hlink => exact .inr (.inl ⟨hdecode, hlink⟩)
    | zeroize arg hmask hlink => exact .inr (.inr (.inl ⟨arg, hdecode, hmask, hlink⟩))
    | ccPolykey arg hok hlink => exact .inr (.inr (.inr (.inl ⟨arg, hdecode, hok, hlink⟩)))
    | plVerify hcode hlink => exact .inr (.inr (.inr (.inr ⟨hdecode, hcode, hlink⟩)))

/-- Settles O34, by induction on the number of steps: each keeps the context, so the gate stays closed for the next, and
the transactions to come are the tail of those there were. -/
theorem gatedContextStaysPut : Obligations.GatedContextStaysPut := by
  unfold Obligations.GatedContextStaysPut
  intro n
  induction n with
  | zero =>
    rintro s _ - - - ⟨rfl⟩
    rfl
  | succ n ih =>
    intro s t hvalid hgate huntouched hrun
    obtain ⟨u, hstep⟩ := step_next s
    have hcc : u.cc = s.cc := cc_of_gated_step hvalid hgate (fun e rest hp => huntouched e (by simp [hp])) hstep
    have hrest : ∀ e ∈ u.pending.take n, touchesGatedContext e = false := by
      intro e he
      rw [pending_of_step hstep] at he
      refine huntouched e (List.mem_of_mem_tail ?_)
      rwa [List.tail_take_eq_take_tail, Nat.add_sub_cancel]
    rw [run_succ_of_step hstep] at hrun
    exact (ih u t (hcc ▸ hvalid) (hcc ▸ hgate) hrest hrun).trans hcc

/-- Settles O31: `CC_POLYKEY` overwrites the counter with 0 and then with 1, so both the key and the keystream come from
input states that have lost `CTR`. -/
theorem polykeyPositionsKeystream : Obligations.PolykeyPositionsKeystream := by
  unfold Obligations.PolykeyPositionsKeystream
  intro arg s harg hkey hnonce
  refine ⟨_, _, execCcInit_of_lengths hkey hnonce,
    execCcPolykey_of_valid (polykeyArgLegal_of_extract harg) rfl, ?_, rfl, rfl, fun i => ?_⟩
  · rw [oneTimeKey, ccStateOf_registers, ccState_set_counter]
    rfl
  · rw [ccKeystream_of_spent rfl, ccState_set_counter, ccAdvance_ccState, aeadKeystream, ccStateOf_registers,
      BitVec.ofNat_add]
    rfl

/-- Settles O30: the two checks of R210 in their order, after which the key is loaded. -/
theorem polykeyLoadsOneTimeKey : Obligations.PolykeyLoadsOneTimeKey := by
  unfold Obligations.PolykeyLoadsOneTimeKey
  refine ⟨rfl, rfl, fun arg s harg => ⟨fun hvalid => ?_, fun hvalid => ?_⟩⟩
  · rw [execCcPolykey_of_valid (polykeyArgLegal_of_extract harg) hvalid, polyLoad_take]
    rfl
  · exact execCcPolykey_of_invalid (polykeyArgLegal_of_extract harg) hvalid

end Sys2Proof.Proofs
end

section
/-! XSalsa20 (44_xsalsa20.md): the context `XS_INIT` builds (R230, R232 to R234), and the keystream of `XS_XOR` (R231,
R236). As for ChaCha20 the one idea of the latter is that consuming bytes is additive. What is new is the block counter:
64 bits in words 8 and 9 of the input state, read and written as one piece of it. -/

namespace Sys2Proof.Proofs

open Sys2Proof.Machine

/-! ### The 64-bit block counter as one piece of the input state (R236) -/

/-- The block counter of an input state: word 8 its low half, word 9 its high half. -/
def saCounter (st : Vector Word 16) : DWord := st[9] ++ st[8]

/-- An input state with its block counter replaced. -/
def saSetCounter (st : Vector Word 16) (c : DWord) : Vector Word 16 :=
  (st.set 8 (c.extractLsb' 0 32)).set 9 (c.extractLsb' 32 32)

theorem xsCounter_eq (x : XS) : xsCounter x = saCounter x.st := rfl

theorem xsAdvance_eq (st : Vector Word 16) (m : Nat) :
    xsAdvance st m = saSetCounter st (saCounter st + BitVec.ofNat 64 m) := rfl

@[simp] theorem saCounter_saSetCounter (st : Vector Word 16) (c : DWord) : saCounter (saSetCounter st c) = c := by
  have hhalves : (c.extractLsb' 32 32 ++ c.extractLsb' 0 32 : DWord) = c :=
    (BitVec.extractLsb'_append_extractLsb'_eq_extractLsb' rfl).trans BitVec.extractLsb'_eq_self
  simpa [saCounter, saSetCounter] using hhalves

@[simp] theorem saSetCounter_saCounter (st : Vector Word 16) : saSetCounter st (saCounter st) = st := by
  have hlow : (saCounter st).extractLsb' 0 32 = st[8] := BitVec.extractLsb'_append_eq_right
  have hhigh : (saCounter st).extractLsb' 32 32 = st[9] := BitVec.extractLsb'_append_eq_left
  rw [saSetCounter, hlow, hhigh, Vector.set_getElem_self]
  exact Vector.set_getElem_self ..

@[simp] theorem saSetCounter_saSetCounter (st : Vector Word 16) (c d : DWord) :
    saSetCounter (saSetCounter st c) d = saSetCounter st d := by
  unfold saSetCounter
  rw [Vector.set_comm _ _ (by decide), Vector.set_set, Vector.set_comm _ _ (by decide), Vector.set_set]

@[simp] theorem xsAdvance_zero (st : Vector Word 16) : xsAdvance st 0 = st := by simp [xsAdvance_eq]

theorem xsAdvance_add (st : Vector Word 16) (m n : Nat) : xsAdvance (xsAdvance st m) n = xsAdvance st (m + n) := by
  simp [xsAdvance_eq, BitVec.ofNat_add, BitVec.add_assoc]

/-- The block counter advances modulo 2^64. -/
theorem xsAdvance_counter (st : Vector Word 16) (m : Nat) :
    (saCounter (xsAdvance st m)).toNat = ((saCounter st).toNat + m) % 2 ^ 64 := by
  simp [xsAdvance_eq]

/-- `SANextBlock` computes the counter as a number and stores it by halves: the state one block on. -/
theorem saNextBlock_st (s : State) : (saNextBlock s).xs.st = xsAdvance s.xs.st 1 := by
  have hlow (c : DWord) : BitVec.ofNat 32 (c.toNat + 1) = (c + BitVec.ofNat 64 1).extractLsb' 0 32 :=
    BitVec.eq_of_toNat_eq (by simp)
  have hhigh (c : DWord) : BitVec.ofNat 32 ((c.toNat + 1) / 2 ^ 32) = (c + BitVec.ofNat 64 1).extractLsb' 32 32 :=
    BitVec.eq_of_toNat_eq (by simp [Nat.shiftRight_eq_div_pow]; omega)
  rw [saNextBlock_xs, xsAdvance_eq, saSetCounter, ← xsCounter_eq, ← hlow, ← hhigh]

/-! ### The context after `n` bytes (10_state.md R46, R236) -/

/-- The context after `n` keystream bytes are consumed from it. -/
def xsAfter (x : XS) (n : Nat) : XS :=
  { x with
    st := xsAdvance x.st (blocksNeeded x.avail n)
    blk := blockAfter x.blk (fun k => saBlock (xsAdvance x.st k)) (blocksNeeded x.avail n)
    avail := availAfter x.avail n }

@[simp] theorem xsAfter_zero (x : XS) : xsAfter x 0 = x := by simp [xsAfter, blockAfter]

theorem xsAfter_add (x : XS) (m n : Nat) : xsAfter (xsAfter x m) n = xsAfter x (m + n) := by
  simp only [xsAfter, xsAdvance_add, blockAfter_add, ← blocksNeeded_add, ← availAfter_add]

theorem xsKeystream_eq_streamByte (x : XS) (i : Nat) :
    xsKeystream x i = streamByte x.avail x.blk (fun k => saBlock (xsAdvance x.st k)) i := rfl

theorem xsKeystream_xsAfter {x : XS} (hx : x.avail ≤ 64) (m i : Nat) :
    xsKeystream (xsAfter x m) i = xsKeystream x (m + i) := by
  simp only [xsKeystream_eq_streamByte, ← streamByte_after hx, xsAfter, xsAdvance_add]

/-- `STICKY` after `n` keystream bytes consumed from the context `x`. -/
def xsStickyAfter (x : XS) (n : Nat) (old : BitVec 6) : BitVec 6 :=
  wrapSticky (2 ^ 64) stickyXsWrap (xsCounter x).toNat (blocksNeeded x.avail n) old

@[simp] theorem xsStickyAfter_zero (x : XS) (old : BitVec 6) : xsStickyAfter x 0 old = old := by
  rw [xsStickyAfter, blocksNeeded_zero, wrapSticky_zero (xsCounter x).isLt]

theorem xsStickyAfter_add (x : XS) (m n : Nat) (old : BitVec 6) :
    xsStickyAfter (xsAfter x m) n (xsStickyAfter x m old) = xsStickyAfter x (m + n) old := by
  simp only [xsStickyAfter, xsCounter_eq, xsAfter, xsAdvance_counter, blocksNeeded_add,
    ← wrapSticky_add (saCounter x.st).isLt]

/-! ### The loop of `XS_XOR` (R231) -/

/-- One pass consumes one byte. -/
theorem xsXorByte_xsAfter (i : Nat) (s : State) : (xsXorByte i s).xs = xsAfter s.xs 1 := by
  by_cases h : s.xs.avail = 0
  · obtain ⟨hneeded, hafter⟩ := nextByte_of_spent (n := 0) ((availAfter_zero s.xs.avail).trans h)
    rw [xsXorByte_xs, xsRefill_of_spent h, xsAfter, hneeded, hafter, blocksNeeded_zero, ← saNextBlock_st]
    simp [blockAfter]
  · obtain ⟨hneeded, hafter⟩ := nextByte_of_left (n := 0) ((availAfter_zero s.xs.avail).trans_ne h)
    rw [xsXorByte_xs, xsRefill_of_left h, xsAfter, hneeded, hafter, blocksNeeded_zero, availAfter_zero, xsAdvance_zero]
    rfl

/-- The byte the pass uses is the keystream's next one. -/
theorem xsKeyByte_xsRefill (s : State) : xsKeyByte (xsRefill s).xs = xsKeystream s.xs 0 := by
  by_cases h : s.xs.avail = 0
  · rw [xsRefill_of_spent h]
    simp [xsKeyByte, xsKeystream, h]
  · rw [xsRefill_of_left h, xsKeyByte, xsKeystream, if_pos (Nat.pos_of_ne_zero h), Nat.add_zero]

theorem xsXorLoop_xs (n : Nat) (s : State) : (forUpTo xsXorByte n s).xs = xsAfter s.xs n := by
  induction n with
  | zero => exact (xsAfter_zero s.xs).symm
  | succ n ih => rw [forUpTo_succ, xsXorByte_xsAfter, ih, xsAfter_add]

theorem xsXorLoop_sticky (n : Nat) (s : State) :
    (forUpTo xsXorByte n s).sticky = xsStickyAfter s.xs n s.sticky := by
  obtain ⟨-, -, hsticky⟩ := xsXorByte_streamPass.loop n s
  exact hsticky

theorem bufB_xsXorLoop {s : State} (hx : s.xs.avail ≤ 64) {n j : Nat} (hjn : j < n) (hj : j < 128) :
    bufB (forUpTo xsXorByte n s) j = bufB s j ^^^ xsKeystream s.xs j := by
  refine bufB_forUpTo_xor (fun _ u _ hij => bufB_xsXorByte hij u) (fun i hi => ?_) hjn hj
  rw [bufB, xsXorByte_buf, xsKeyByte_xsRefill, xsXorLoop_xs, xsKeystream_xsAfter hx, Nat.add_zero]
  exact (bufB_setBufB _ i i _).trans (if_pos ⟨rfl, hi⟩)

theorem xsXorLoop_buf {s : State} (hx : s.xs.avail ≤ 64) (n : Nat) :
    (forUpTo xsXorByte n s).buf = Vector.ofFn fun j : Fin 128 =>
      if j.val < n then s.buf[j] ^^^ xsKeystream s.xs j.val else s.buf[j] := by
  refine Vector.ext fun j hj => ?_
  rw [Vector.getElem_ofFn, getElem_buf _ hj, Fin.getElem_fin, getElem_buf s hj]
  by_cases hjn : j < n
  · rw [if_pos hjn, bufB_xsXorLoop hx hjn hj]
  · rw [if_neg hjn, bufB_forUpTo (fun _ u _ hij => bufB_xsXorByte hij u) (Nat.not_lt.1 hjn)]

/-! ### The command `XS_XOR` (R231) -/

theorem execXsXor_of_invalid {s : State} (h : s.xs.valid = false) :
    exec .xsXor s = .next (complete 0x41#8 .eState s) := if_pos h

theorem execXsXor_of_long {s : State} (hvalid : s.xs.valid = true) (h : 128 < s.len.toNat) :
    exec .xsXor s = .next (complete 0x41#8 .eLen s) :=
  (if_neg (ne_false_of_eq_true hvalid)).trans (if_pos h)

theorem execXsXor_of_valid {s : State} (hvalid : s.xs.valid = true) (h : s.len.toNat ≤ 128) :
    exec .xsXor s = .next (complete 0x41#8 .ok (forUpTo xsXorByte s.len.toNat s)) :=
  (if_neg (ne_false_of_eq_true hvalid)).trans (if_neg (Nat.not_lt.2 h))

/-- Only an `XS_XOR` that passed its two checks completes `OK`. -/
theorem valid_of_execXsXor_ok {s t : State} (h : exec .xsXor s = .next t) (hok : t.code = .ok) :
    s.xs.valid = true ∧ s.len.toNat ≤ 128 := by
  cases hvalid : s.xs.valid with
  | false =>
    cases (execXsXor_of_invalid hvalid).symm.trans h
    cases hok
  | true =>
    refine ⟨rfl, Nat.le_of_not_lt fun hlen => ?_⟩
    cases (execXsXor_of_long hvalid hlen).symm.trans h
    cases hok

/-- What `XS_XOR` does not write is as it was (30_encoding.md R102). -/
theorem eq_of_execXsXor {s t : State} (h : exec .xsXor s = .next t) :
    t = { s with code := t.code, lastop := t.lastop, sticky := t.sticky, buf := t.buf, xs := t.xs } :=
  congrArg (fun u => { u with code := t.code, lastop := t.lastop, sticky := t.sticky, buf := t.buf, xs := t.xs })
    (exec_unwritten .xsXor s t h)

/-- `XS_XOR` past its checks. -/
theorem execXsXor_eq {s : State} (hvalid : s.xs.valid = true) (hlen : s.len.toNat ≤ 128) (hx : s.xs.avail ≤ 64) :
    exec .xsXor s = .next { s with
      code := .ok
      lastop := 0x41#8
      sticky := xsStickyAfter s.xs s.len.toNat s.sticky
      buf := Vector.ofFn fun j : Fin 128 =>
        if j.val < s.len.toNat then s.buf[j] ^^^ xsKeystream s.xs j.val else s.buf[j]
      xs := xsAfter s.xs s.len.toNat } := by
  have hexec := execXsXor_of_valid hvalid hlen
  rw [hexec, eq_of_execXsXor hexec, complete_ok]
  simp only [xsXorLoop_xs, xsXorLoop_buf hx, xsXorLoop_sticky]

/-! ### A byte string in chunks (30_encoding.md R108, 70_reset_and_hazards.md R343) -/

/-- `XS_XOR` on a chunk: its output bytes, and the context and `STICKY` after it. -/
theorem execXsXor_loadChunk {s : State} {c : List Byte} (hvalid : s.xs.valid = true) (hx : s.xs.avail ≤ 64)
    (hc : c.length ≤ 128) :
    ∃ t, exec .xsXor (loadChunk c s) = .next t ∧ (∀ j, j < c.length → bufB t j = c.getD j 0 ^^^ xsKeystream s.xs j) ∧
      t.xs = xsAfter s.xs c.length ∧ t.sticky = xsStickyAfter s.xs c.length s.sticky := by
  have hlen := loadChunk_len hc s
  have hexec := execXsXor_of_valid (s := loadChunk c s) hvalid (hlen.trans_le hc)
  rw [hlen, complete_ok] at hexec
  refine ⟨_, hexec, fun j hj => ?_, xsXorLoop_xs .., xsXorLoop_sticky ..⟩
  have h128 : j < 128 := by omega
  rw [← bufB_loadChunk hj h128]
  exact bufB_xsXorLoop (s := loadChunk c s) hx hj h128

/-- Where the context `x` with the sticky bits `old` has come to after the bytes `m`. -/
def XsStreamed (x : XS) (old : BitVec 6) (m : List Byte) (u : State) : Prop :=
  u.xs = xsAfter x m.length ∧ u.sticky = xsStickyAfter x m.length old

theorem XsStreamed.start (s : State) : XsStreamed s.xs s.sticky [] s :=
  ⟨(xsAfter_zero s.xs).symm, (xsStickyAfter_zero s.xs s.sticky).symm⟩

/-- One chunk more: its output continues the keystream of the whole string. -/
theorem XsStreamed.next {x : XS} {old : BitVec 6} {m c : List Byte} {u : State} (hvalid : x.valid = true)
    (hx : x.avail ≤ 64) (hc : c.length ≤ 128) (hu : XsStreamed x old m u) :
    ∃ t, exec .xsXor (loadChunk c u) = .next t ∧
      (∀ j, j < c.length → bufB t j = c.getD j 0 ^^^ xsKeystream x (m.length + j)) ∧ XsStreamed x old (m ++ c) t := by
  obtain ⟨hxs, hsticky⟩ := hu
  have hvalid' : u.xs.valid = true := (congrArg XS.valid hxs).trans hvalid
  have hx' : u.xs.avail ≤ 64 := (congrArg XS.avail hxs).trans_le (availAfter_le hx _)
  obtain ⟨t, ht, hbuf, htxs, htsticky⟩ := execXsXor_loadChunk hvalid' hx' hc
  refine ⟨t, ht, fun j hj => ?_, ?_, ?_⟩
  · rw [hbuf j hj, hxs, xsKeystream_xsAfter hx]
  · rw [htxs, hxs, xsAfter_add, List.length_append]
  · rw [htsticky, hsticky, hxs, xsStickyAfter_add, List.length_append]

/-! ### The command `XS_INIT` (R230) -/

theorem keyWords_eq (s : State) :
    keyWords s = #v[s.key[0], s.key[1], s.key[2], s.key[3], s.key[4], s.key[5], s.key[6], s.key[7]] := rfl

theorem execXsInit_of_keylen {s : State} (hkey : s.klen.toNat ≠ 32) :
    exec .xsInit s = .next (complete 0x40#8 .eKeylen (clearKey (zeroizeXS s))) := if_pos hkey

theorem execXsInit_of_noncelen {s : State} (hkey : s.klen.toNat = 32) (hnonce : s.nlen.toNat ≠ 24) :
    exec .xsInit s = .next (complete 0x40#8 .eNoncelen (clearKey (zeroizeXS s))) :=
  (if_neg (not_not.2 hkey)).trans (if_pos hnonce)

/-- `XS_INIT` past its checks, with the input state by `SAState` (R232, R234). -/
theorem execXsInit_of_lengths {s : State} (hkey : s.klen.toNat = 32) (hnonce : s.nlen.toNat = 24) :
    exec .xsInit s = .next { s with
      code := .ok, lastop := 0x40#8, key := Vector.replicate 16 0
      xs := {
        valid := true, avail := 0, blk := Vector.replicate 64 0
        st := saState (hsalsa20 (keyWords s) s.nonce[0] s.nonce[1] s.nonce[2] s.nonce[3]) s.nonce[4] s.nonce[5]
          0 0 } } := by
  refine (if_neg (not_not.2 hkey)).trans ((if_neg (not_not.2 hnonce)).trans ?_)
  rw [endWith_eq, complete_ok]
  rfl

/-! ### The obligations -/

/-- Settles O50, by induction on the chunks: each leaves the context and the wrap flag where the bytes so far take them,
because consuming bytes is additive. -/
theorem xsStreamOfAnyChunking : Obligations.XsStreamOfAnyChunking := by
  unfold Obligations.XsStreamOfAnyChunking
  intro s cs c hvalid hx hc hcs
  have hstep : ∀ m d u, d.length ≤ 128 → XsStreamed s.xs s.sticky m u →
      ∃ t, exec .xsXor (loadChunk d u) = .next t ∧ XsStreamed s.xs s.sticky (m ++ d) t := fun m d u hd hu =>
    have ⟨t, ht, _, hnext⟩ := hu.next hvalid hx hd
    ⟨t, ht, hnext⟩
  obtain ⟨u, hu, hstreamed⟩ := execChunks_invariant hstep cs hcs (XsStreamed.start s)
  obtain ⟨t, ht, hbuf, hxs, hsticky⟩ := hstreamed.next hvalid hx hc
  rw [List.nil_append] at hbuf hxs hsticky
  rw [List.length_append] at hxs hsticky
  exact ⟨t, (execChunks_append hu [c]).trans (execChunks_cons ht []), hbuf, hxs, hsticky⟩

/-- Settles O49: past its checks the command is its loop, which consumes `LEN` keystream bytes. -/
theorem xsXorProducesKeystream : Obligations.XsXorProducesKeystream := by
  unfold Obligations.XsXorProducesKeystream
  exact ⟨rfl, fun s => ⟨execXsXor_eq, execXsXor_of_invalid, execXsXor_of_long⟩⟩

/-- Settles O51: the second run starts from the first one's context and `LEN`, so it XORs the same keystream bytes. -/
theorem xsXorInvolution : Obligations.XsXorInvolution := by
  unfold Obligations.XsXorInvolution
  intro s t hx h hok
  obtain ⟨hvalid, hlen⟩ := valid_of_execXsXor_ok h hok
  cases (execXsXor_eq hvalid hlen hx).symm.trans h
  refine ⟨_, execXsXor_eq hvalid hlen hx, rfl, Vector.ext fun j hj => ?_, rfl⟩
  by_cases hjn : j < s.len.toNat
  · simp [hjn]
  · simp [hjn]

/-- Settles O48: the two checks of R230 in their order, after which the context is `SAState` of the subkey, written out
in the layout of R232. -/
theorem xsInitDerivesSubkey : Obligations.XsInitDerivesSubkey := by
  unfold Obligations.XsInitDerivesSubkey
  refine ⟨rfl, fun s k hk => ⟨fun hkey hnonce => ?_, execXsInit_of_keylen, execXsInit_of_noncelen⟩⟩
  rw [execXsInit_of_lengths hkey hnonce, keyWords_eq, ← hk, saState, sigmaC0, sigmaC1, sigmaC2, sigmaC3]
  rfl

end Sys2Proof.Proofs
end

section
/-! BLAKE2b (45_blake2b.md): the three commands (R250 to R252) and the message they hash (R255, R262). The one idea is that
the context is a function `b2After` of the bytes given so far, the buffered ones first: one byte more takes the context of
`d` to that of `d ++ [b]`, whether or not it flushes a full buffer, so one pass of the loop gives the loop, and one command
gives any sequence of commands (R343). -/

namespace Sys2Proof.Proofs

open Sys2Proof.Machine

/-! ### Bytes of byte strings -/

theorem getD_append_singleton (d : List Byte) (b : Byte) (k : Nat) :
    (d ++ [b]).getD k 0 = if k = d.length then b else d.getD k 0 := by
  rcases Nat.lt_trichotomy k d.length with hlt | heq | hgt
  · rw [List.getD_append _ _ _ _ hlt, if_neg (Nat.ne_of_lt hlt)]
  · simp [heq]
  · rw [if_neg (Nat.ne_of_gt hgt), List.getD_eq_default _ _ (by simpa using hgt), List.getD_eq_default _ _ hgt.le]

theorem bytesOf_getD_of_lt {n j : Nat} (f : Nat → Byte) (h : j < n) : (bytesOf n f).getD j 0 = f j := by
  rw [List.getD_eq_getElem _ _ (by simpa using h), bytesOf_getElem]

theorem slice_getD (d : List Byte) (a : Nat) {n i : Nat} (h : i < n) : (slice d a n).getD i 0 = d.getD (a + i) 0 := by
  simp [slice, List.getD_eq_getElem?_getD, h]

theorem slice_append {d : List Byte} {a n : Nat} (h : a + n ≤ d.length) (e : List Byte) :
    slice (d ++ e) a n = slice d a n := by
  rw [slice, List.drop_append_of_le_length (by omega), List.take_append_of_le_length (by simp; omega), slice]

/-- A loaded chunk is what the command reads (30_encoding.md R108). -/
theorem bytesOf_loadChunk {c : List Byte} (hc : c.length ≤ 128) (s : State) :
    bytesOf (loadChunk c s).len.toNat (bufB (loadChunk c s)) = c := by
  rw [loadChunk_len hc, bytesOf_congr fun j hj => bufB_loadChunk hj (hj.trans_le hc), bytesOf_getD]

/-! ### Blocks before the last one (R255) -/

/-- How many of `n` bytes wait in the buffer: all that are in no block before the last one (R251, R255). -/
def b2Held (n : Nat) : Nat := n - 128 * b2Before n

theorem b2Before_add_b2Held (n : Nat) : 128 * b2Before n + b2Held n = n := by
  unfold b2Held b2Before
  omega

theorem b2Held_le (n : Nat) : b2Held n ≤ 128 := by
  unfold b2Held b2Before
  omega

theorem b2Before_of_le {n : Nat} (h : n ≤ 128) : b2Before n = 0 := by
  unfold b2Before
  omega

/-- One byte more opens a new last block exactly when the buffer is full. -/
theorem b2Before_succ (n : Nat) : b2Before (n + 1) = if b2Held n = 128 then b2Before n + 1 else b2Before n := by
  unfold b2Held b2Before
  split <;> omega

theorem b2Held_succ (n : Nat) : b2Held (n + 1) = if b2Held n = 128 then 1 else b2Held n + 1 := by
  have hn := b2Before_add_b2Held n
  have hsucc := b2Before_add_b2Held (n + 1)
  rw [b2Before_succ] at hsucc
  split at hsucc <;> split <;> omega

/-- The chaining value after `j` non-final blocks of `d`, from the chaining value `h` and the byte counter `t` (R255,
R257). -/
def b2ChainFrom (h : Vector DWord 8) (t : BitVec 128) (d : List Byte) : Nat → Vector DWord 8
  | 0 => h
  | j + 1 => b2Compress (b2ChainFrom h t d j) (padBlock (slice d (128 * j) 128)) (t + BitVec.ofNat 128 (128 * (j + 1))) false

theorem b2ChainFrom_zero (h : Vector DWord 8) (d : List Byte) (j : Nat) : b2ChainFrom h 0 d j = b2Chain h d j := by
  induction j with
  | zero => rfl
  | succ j ih => rw [b2ChainFrom, ih, BitVec.ofNat_eq_ofNat, BitVec.zero_add, b2Chain]

/-- Blocks already complete do not change when bytes follow. -/
theorem b2ChainFrom_append (h : Vector DWord 8) (t : BitVec 128) (d e : List Byte) {j : Nat} (hj : 128 * j ≤ d.length) :
    b2ChainFrom h t (d ++ e) j = b2ChainFrom h t d j := by
  induction j with
  | zero => rfl
  | succ j ih => rw [b2ChainFrom, ih (by omega), slice_append (by omega), b2ChainFrom]

/-! ### The context after a byte string (R251) -/

/-- The bytes that wait in the buffer (R45). -/
def buffered (c : B2) : List Byte := c.buf.toList.take c.fill

/-- Byte `i` of the buffer after the byte string `d`: the string's own bytes past the blocks before its last one, and
beyond them what the buffer held, which the first flush clears (R251). -/
def b2Byte (c : B2) (d : List Byte) (i : Fin 128) : Byte :=
  if d.length ≤ 128 then (if i.val < d.length then d.getD i.val 0 else c.buf[i])
  else d.getD (128 * b2Before d.length + i.val) 0

/-- The context of `c` after the byte string `d`, of which `c` itself has absorbed nothing yet (R251). -/
def b2After (c : B2) (d : List Byte) : B2 :=
  { c with
    t := c.t + BitVec.ofNat 128 (128 * b2Before d.length)
    h := b2ChainFrom c.h c.t d (b2Before d.length)
    fill := b2Held d.length
    buf := Vector.ofFn (b2Byte c d) }

theorem b2After_eq {c : B2} {d : List Byte} {q k : Nat} {v : Vector Byte 128} (hbefore : b2Before d.length = q)
    (hheld : b2Held d.length = k) (hbuf : Vector.ofFn (b2Byte c d) = v) :
    b2After c d = { c with
      t := c.t + BitVec.ofNat 128 (128 * q), h := b2ChainFrom c.h c.t d q, fill := k, buf := v } := by
  rw [b2After, hbefore, hheld, hbuf]

theorem buffered_length {c : B2} (h : c.fill ≤ 128) : (buffered c).length = c.fill := by
  simp [buffered, h]

theorem buffered_getD (c : B2) {j : Nat} (hj : j < 128) (hfill : j < c.fill) : (buffered c).getD j 0 = c.buf[j] := by
  simp [buffered, List.getD_eq_getElem?_getD, hfill, hj]

/-- While they fit the buffer, the bytes of the string overwrite what it held. -/
theorem b2After_of_fits {c : B2} {d : List Byte} (h : d.length ≤ 128) :
    b2After c d = { c with
      fill := d.length
      buf := Vector.ofFn fun j : Fin 128 => if j.val < d.length then d.getD j.val 0 else c.buf[j] } := by
  have hbefore := b2Before_of_le h
  have hheld : b2Held d.length = d.length := by rw [b2Held, hbefore]; omega
  have hbuf : b2Byte c d = fun j : Fin 128 => if j.val < d.length then d.getD j.val 0 else c.buf[j] :=
    funext fun _ => if_pos h
  rw [b2After_eq hbefore hheld (congrArg Vector.ofFn hbuf), b2ChainFrom, Nat.mul_zero, BitVec.ofNat_eq_ofNat,
    BitVec.add_zero]

/-- Before any new byte the byte string is the buffered bytes. -/
theorem b2After_buffered {c : B2} (h : c.fill ≤ 128) : b2After c (buffered c) = c := by
  have hlength := buffered_length h
  have hbuf : (Vector.ofFn fun j : Fin 128 =>
      if j.val < (buffered c).length then (buffered c).getD j.val 0 else c.buf[j]) = c.buf := by
    refine Vector.ext fun i hi => ?_
    rw [Vector.getElem_ofFn, hlength]
    split
    · next hfill => exact buffered_getD c hi hfill
    · rfl
  rw [b2After_of_fits (hlength.trans_le h), hbuf, hlength]

theorem b2Byte_of_held (c : B2) {d : List Byte} {i : Fin 128} (hi : i.val < b2Held d.length) :
    b2Byte c d i = d.getD (128 * b2Before d.length + i.val) 0 := by
  unfold b2Byte
  split
  · next hfits =>
    rw [b2Held, b2Before_of_le hfits, Nat.mul_zero, Nat.sub_zero] at hi
    rw [if_pos hi, b2Before_of_le hfits, Nat.mul_zero, Nat.zero_add]
  · rfl

/-- The bytes that wait are those past the blocks before the last one. -/
theorem buffered_b2After (c : B2) (d : List Byte) : buffered (b2After c d) = d.drop (128 * b2Before d.length) := by
  have hlength : (buffered (b2After c d)).length = b2Held d.length := buffered_length (b2Held_le _)
  refine List.ext_getElem (by rw [hlength, List.length_drop, b2Held]) fun i hi _ => ?_
  have hheld : i < b2Held d.length := hlength ▸ hi
  have hbyte := b2Byte_of_held c (d := d) (i := ⟨i, hheld.trans_le (b2Held_le _)⟩) hheld
  simp only [buffered, b2After, List.getElem_take, Vector.getElem_toList, Vector.getElem_ofFn, List.getElem_drop]
  rw [hbyte, List.getD_eq_getElem]

/-! ### One byte more (R251) -/

theorem b2Flush_of_full {c : B2} (h : c.fill = 128) :
    b2Flush c = { c with
      t := c.t + 128#128, h := b2Compress c.h c.buf (c.t + 128#128) false, buf := Vector.replicate 128 0, fill := 0 } :=
  if_pos h

theorem b2Flush_of_room {c : B2} (h : c.fill ≠ 128) : b2Flush c = c := if_neg h

/-- With room in the buffer a byte more goes behind the held ones and changes no other. -/
theorem b2Byte_append_of_room (c : B2) {d : List Byte} (b : Byte) (i : Fin 128) (h : b2Held d.length ≠ 128) :
    b2Byte c (d ++ [b]) i = if b2Held d.length = i.val then b else b2Byte c d i := by
  have hlen := b2Before_add_b2Held d.length
  simp only [b2Byte, List.length_append, List.length_singleton, getD_append_singleton, b2Before_succ, if_neg h]
  by_cases hshort : d.length < 128
  · have hheld : b2Held d.length = d.length := by rw [b2Held, b2Before_of_le hshort.le, Nat.mul_zero, Nat.sub_zero]
    rw [if_pos (by omega), if_pos hshort.le, hheld]
    rcases Nat.lt_trichotomy i.val d.length with hlt | heq | hgt
    · simp [hlt, hlt.ne, hlt.ne', Nat.lt_succ_of_lt hlt]
    · simp [heq]
    · rw [if_neg (by omega), if_neg hgt.ne, if_neg hgt.not_gt]
  · have hne : d.length ≠ 128 := fun h128 => h (by rw [b2Held, b2Before_of_le h128.le, h128])
    rw [if_neg (by omega), if_neg (show ¬d.length ≤ 128 by omega)]
    exact if_congr (by omega) rfl rfl

/-- With room in the buffer a byte is stored. -/
theorem b2Absorb_b2After_of_room (c : B2) {d : List Byte} (b : Byte) (h : b2Held d.length ≠ 128) :
    b2Absorb b (b2After c d) = b2After c (d ++ [b]) := by
  have hlen := b2Before_add_b2Held d.length
  have hbefore : b2Before (d ++ [b]).length = b2Before d.length := by
    rw [List.length_append, List.length_singleton, b2Before_succ, if_neg h]
  have hheld : b2Held (d ++ [b]).length = b2Held d.length + 1 := by
    rw [List.length_append, List.length_singleton, b2Held_succ, if_neg h]
  have hbuf : Vector.ofFn (b2Byte c (d ++ [b])) = (Vector.ofFn (b2Byte c d)).setIfInBounds (b2Held d.length) b := by
    refine Vector.ext fun i hi => ?_
    rw [Vector.getElem_ofFn, b2Byte_append_of_room c b _ h, Vector.getElem_setIfInBounds, Vector.getElem_ofFn]
  rw [b2After_eq hbefore hheld hbuf, b2ChainFrom_append _ _ _ _ (by omega), b2Absorb, b2Flush_of_room h]
  rfl

/-- A full buffer is the last block so far. -/
theorem buf_of_full (c : B2) {d : List Byte} (h : b2Held d.length = 128) :
    Vector.ofFn (b2Byte c d) = padBlock (slice d (128 * b2Before d.length) 128) := by
  refine congrArg Vector.ofFn (funext fun i => ?_)
  rw [b2Byte_of_held c (by rw [h]; exact i.isLt), slice_getD d _ i.isLt]

/-- A byte that finds the buffer full is the first of a buffer that is zero beyond it. -/
theorem b2Byte_append_of_full (c : B2) {d : List Byte} (b : Byte) (i : Fin 128) (h : b2Held d.length = 128) :
    b2Byte c (d ++ [b]) i = if 0 = i.val then b else 0 := by
  have hlen := b2Before_add_b2Held d.length
  simp only [b2Byte, List.length_append, List.length_singleton, getD_append_singleton, b2Before_succ, if_pos h]
  rw [if_neg (by omega), List.getD_eq_default _ _ (by omega)]
  exact if_congr (by omega) rfl rfl

/-- A byte that finds the buffer full makes it a non-final block and starts the next one. -/
theorem b2Absorb_b2After_of_full (c : B2) {d : List Byte} (b : Byte) (h : b2Held d.length = 128) :
    b2Absorb b (b2After c d) = b2After c (d ++ [b]) := by
  have hlen := b2Before_add_b2Held d.length
  have hbefore : b2Before (d ++ [b]).length = b2Before d.length + 1 := by
    rw [List.length_append, List.length_singleton, b2Before_succ, if_pos h]
  have hheld : b2Held (d ++ [b]).length = 1 := by
    rw [List.length_append, List.length_singleton, b2Held_succ, if_pos h]
  have hbuf : Vector.ofFn (b2Byte c (d ++ [b])) = (Vector.replicate 128 0).setIfInBounds 0 b := by
    refine Vector.ext fun i hi => ?_
    rw [Vector.getElem_ofFn, b2Byte_append_of_full c b _ h, Vector.getElem_setIfInBounds, Vector.getElem_replicate]
  have hcounter : c.t + BitVec.ofNat 128 (128 * b2Before d.length) + 128#128 =
      c.t + BitVec.ofNat 128 (128 * (b2Before d.length + 1)) := by
    rw [Nat.mul_succ, BitVec.ofNat_add, BitVec.add_assoc]
  rw [b2After_eq hbefore hheld hbuf, b2ChainFrom, b2ChainFrom_append _ _ _ _ (by omega), slice_append (by omega),
    ← hcounter, ← buf_of_full c h, b2Absorb, b2Flush_of_full h]
  rfl

theorem b2Absorb_b2After (b : Byte) (c : B2) (d : List Byte) : b2Absorb b (b2After c d) = b2After c (d ++ [b]) := by
  by_cases h : b2Held d.length = 128
  · exact b2Absorb_b2After_of_full c b h
  · exact b2Absorb_b2After_of_room c b h

/-! ### The command `B2_UPDATE` (R251) -/

/-- The body of the loop of `B2_UPDATE`. -/
def b2UpdateByte (i : Nat) (s : State) : State := { s with b2 := b2Absorb (bufB s i) s.b2 }

theorem b2UpdateLoop (s : State) {c : B2} {d : List Byte} (hb2 : s.b2 = b2After c d) (n : Nat) :
    forUpTo b2UpdateByte n s = { s with b2 := b2After c (d ++ bytesOf n (bufB s)) } := by
  induction n with
  | zero => rw [forUpTo_zero, bytesOf, List.range_zero, List.map_nil, List.append_nil, ← hb2]
  | succ n ih =>
    rw [forUpTo_succ, ih, b2UpdateByte, b2Absorb_b2After, bytesOf_succ, ← List.append_assoc]
    rfl

theorem execB2Update_of_invalid {s : State} (h : s.b2.valid = false) :
    exec .b2Update s = .next (complete 0x31#8 .eState s) := if_pos h

theorem execB2Update_of_long {s : State} (hvalid : s.b2.valid = true) (h : 128 < s.len.toNat) :
    exec .b2Update s = .next (complete 0x31#8 .eLen s) :=
  (if_neg (ne_false_of_eq_true hvalid)).trans (if_pos h)

/-- `B2_UPDATE` past its checks, from a context that has come to the byte string `d`. -/
theorem execB2Update_eq {s : State} {c : B2} {d : List Byte} (hb2 : s.b2 = b2After c d) (hvalid : s.b2.valid = true)
    (hlen : s.len.toNat ≤ 128) :
    exec .b2Update s = .next { s with
      code := .ok, lastop := 0x31#8, b2 := b2After c (d ++ bytesOf s.len.toNat (bufB s)) } := by
  have hexec : exec .b2Update s = .next (complete 0x31#8 .ok (forUpTo b2UpdateByte s.len.toNat s)) :=
    (if_neg (ne_false_of_eq_true hvalid)).trans (if_neg (Nat.not_lt.2 hlen))
  rw [hexec, complete_ok, b2UpdateLoop s hb2]

theorem execB2Update_loadChunk {s : State} {c : B2} {m e : List Byte} (hb2 : s.b2 = b2After c m)
    (hvalid : c.valid = true) (he : e.length ≤ 128) :
    ∃ t, exec .b2Update (loadChunk e s) = .next t ∧ t.b2 = b2After c (m ++ e) := by
  refine ⟨_, execB2Update_eq (s := loadChunk e s) hb2 ((congrArg B2.valid hb2).trans hvalid)
    ((loadChunk_len he s).trans_le he), ?_⟩
  rw [bytesOf_loadChunk he]

/-- A sequence of `B2_UPDATE`s absorbs the bytes of its chunks behind the buffered ones. -/
theorem execB2Update_chunks {s : State} {cs : List (List Byte)} (hvalid : s.b2.valid = true) (hfill : s.b2.fill ≤ 128)
    (hcs : ∀ c ∈ cs, c.length ≤ 128) :
    ∃ u, execChunks .b2Update cs s = .next u ∧ u.b2 = b2After s.b2 (buffered s.b2 ++ cs.flatten) :=
  execChunks_invariant (P := fun m u => u.b2 = b2After s.b2 m)
    (fun _ _ _ hc hu => execB2Update_loadChunk hu hvalid hc) cs hcs (b2After_buffered hfill).symm

/-- A byte of the buffered bytes with `n` new ones behind them. -/
theorem getD_buffered_append {c : B2} (hfill : c.fill ≤ 128) (f : Nat → Byte) {n j : Nat} (hj : j < c.fill + n) :
    (buffered c ++ bytesOf n f).getD j 0 = if c.fill ≤ j then f (j - c.fill) else c.buf.getD j 0 := by
  have hlength := buffered_length hfill
  split
  · next hle => rw [List.getD_append_right _ _ _ _ (by omega), hlength, bytesOf_getD_of_lt f (by omega)]
  · next hlt =>
    rw [List.getD_append _ _ _ _ (by omega), buffered_getD c (by omega) (by omega)]
    simp [Vector.getD, show j < 128 by omega]

/-- New bytes that fit the buffer are appended. -/
theorem b2After_append_of_fits {c : B2} (f : Nat → Byte) {n : Nat} (h : c.fill + n ≤ 128) :
    b2After c (buffered c ++ bytesOf n f) = { c with
      fill := c.fill + n
      buf := Vector.ofFn fun j : Fin 128 =>
        if c.fill ≤ j.val ∧ j.val < c.fill + n then f (j.val - c.fill) else c.buf[j] } := by
  have hfill : c.fill ≤ 128 := by omega
  have hlength : (buffered c ++ bytesOf n f).length = c.fill + n := by simp [buffered_length hfill]
  have hbyte (j : Fin 128) :
      (if j.val < c.fill + n then (buffered c ++ bytesOf n f).getD j.val 0 else c.buf[j]) =
        if c.fill ≤ j.val ∧ j.val < c.fill + n then f (j.val - c.fill) else c.buf[j] := by
    by_cases hj : j.val < c.fill + n
    · rw [if_pos hj, getD_buffered_append hfill f hj]
      simp [hj, Vector.getD]
    · rw [if_neg hj, if_neg fun hboth => hj hboth.2]
  rw [b2After_of_fits (hlength.trans_le h), hlength]
  simp only [hbyte]

/-- New bytes, at most a block of them, that do not fit the buffer: one compression, after which the rest starts a zeroed
buffer. -/
theorem b2After_append_of_overflow {c : B2} (f : Nat → Byte) {n : Nat} (hn : n ≤ 128) (hfill : c.fill ≤ 128)
    (h : 128 < c.fill + n) :
    b2After c (buffered c ++ bytesOf n f) = { c with
      t := c.t + 128#128
      h := b2Compress c.h
        (Vector.ofFn fun j : Fin 128 => if c.fill ≤ j.val then f (j.val - c.fill) else c.buf[j]) (c.t + 128#128) false
      fill := c.fill + n - 128
      buf := Vector.ofFn fun j : Fin 128 =>
        if j.val < c.fill + n - 128 then f (128 - c.fill + j.val) else 0#8 } := by
  have hlength : (buffered c ++ bytesOf n f).length = c.fill + n := by simp [buffered_length hfill]
  have hbefore : b2Before (buffered c ++ bytesOf n f).length = 1 := by rw [hlength, b2Before]; omega
  have hheld : b2Held (buffered c ++ bytesOf n f).length = c.fill + n - 128 := by rw [b2Held, hbefore, hlength]
  have hblock : padBlock (slice (buffered c ++ bytesOf n f) 0 128) =
      Vector.ofFn fun j : Fin 128 => if c.fill ≤ j.val then f (j.val - c.fill) else c.buf[j] := by
    refine congrArg Vector.ofFn (funext fun j => ?_)
    rw [slice_getD _ _ j.isLt, Nat.zero_add, getD_buffered_append hfill f (by omega)]
    simp [Vector.getD]
  have hrest : Vector.ofFn (b2Byte c (buffered c ++ bytesOf n f)) =
      Vector.ofFn fun j : Fin 128 => if j.val < c.fill + n - 128 then f (128 - c.fill + j.val) else 0#8 := by
    refine congrArg Vector.ofFn (funext fun j => ?_)
    rw [b2Byte, if_neg (by omega), hbefore]
    by_cases hj : j.val < c.fill + n - 128
    · rw [if_pos hj, getD_buffered_append hfill f (by omega), if_pos (by omega)]
      congr 1
      omega
    · rw [if_neg hj, List.getD_eq_default _ _ (by omega)]
      rfl
  rw [b2After_eq hbefore hheld hrest, b2ChainFrom, b2ChainFrom, Nat.mul_zero, hblock]

/-! ### The command `B2_FINAL` (R252, R259) -/

theorem execB2Final_of_invalid {s : State} (h : s.b2.valid = false) :
    exec .b2Final s = .next (complete 0x32#8 .eState s) := if_pos h

/-- `B2_FINAL` past its check. -/
theorem execB2Final_eq {s : State} (hvalid : s.b2.valid = true) :
    exec .b2Final s = .next { s with
      code := .ok, lastop := 0x32#8, digest := packWords 16 (digestByte (b2Finish s.b2) s.b2.outlen),
      b2 := { B2.zero with done := true } } := by
  refine (if_neg (ne_false_of_eq_true hvalid)).trans ?_
  rw [endWith_eq, complete_ok]
  rfl

/-- A register array written by bytes reads as those bytes (20_memory.md R72). -/
theorem arrayByte_packWords {n j : Nat} (f : Nat → Byte) (hj : j < 4 * n) : arrayByte (packWords n f) j = f j := by
  have hword := arrayByte_word (packWords n f) (i := j / 4) (j := j % 4) (by omega) (by omega)
  rw [Nat.div_add_mod] at hword
  rw [hword, packWords, Vector.getElem_ofFn]
  refine (wordByte_le32 (fun k => f (4 * (j / 4) + k)) (by omega)).trans ?_
  rw [Nat.div_add_mod]

theorem digestByte_of_lt {h : Vector DWord 8} {ol j : Nat} (hol : j < ol) (hj : j < 64) :
    digestByte h ol j = h[j / 8].extractLsb' (8 * (j % 8)) 8 := by
  rw [digestByte, if_pos hol, dwordByte]
  simp [Vector.getD, show j / 8 < 8 by omega]

theorem digestByte_of_ge {h : Vector DWord 8} {ol j : Nat} (hol : ol ≤ j) : digestByte h ol j = 0#8 :=
  if_neg (Nat.not_lt.2 hol)

/-- The block of the final compression, by its bytes. -/
theorem padBlock_buffered (c : B2) :
    padBlock (buffered c) = Vector.ofFn fun j : Fin 128 => if j.val < c.fill then c.buf[j] else 0#8 := by
  refine congrArg Vector.ofFn (funext fun j => ?_)
  by_cases hj : j.val < c.fill
  · rw [if_pos hj, buffered_getD c j.isLt hj, Fin.getElem_fin]
  · rw [if_neg hj, buffered, List.getD_eq_default _ _ ((List.length_take_le ..).trans (Nat.not_lt.1 hj))]
    rfl

theorem b2Finish_eq (c : B2) :
    b2Finish c = b2Compress c.h (padBlock (buffered c)) (BitVec.ofNat 128 (c.t.toNat + c.fill)) true := by
  rw [b2Finish, buffered, BitVec.ofNat_add, BitVec.ofNat_toNat, BitVec.setWidth_eq]

/-- After the whole byte string the final compression gives the words of R255. -/
theorem b2Finish_b2After {c : B2} {ol kl : Nat} (ht : c.t = 0) (hh : c.h = b2Start ol kl) (d : List Byte) :
    b2Finish (b2After c d) = b2HashWords ol kl d := by
  have hcounter : (b2After c d).t + BitVec.ofNat 128 (b2After c d).fill = BitVec.ofNat 128 d.length := by
    simp only [b2After, ht, BitVec.ofNat_eq_ofNat, BitVec.zero_add]
    rw [← BitVec.ofNat_add, b2Before_add_b2Held]
  have hchain : (b2After c d).h = b2Chain (b2Start ol kl) d (b2Before d.length) := by
    rw [b2After, ht, hh, b2ChainFrom_zero]
  rw [b2Finish, hcounter, hchain, ← buffered, buffered_b2After, b2HashWords]

/-! ### The command `B2_INIT` (R250, R253, R254) -/

theorem execB2Init_of_outlen {s : State} (h : s.outlen.toNat = 0 ∨ 64 < s.outlen.toNat) :
    exec .b2Init s = .next (complete 0x30#8 .eOutlen (clearKey (zeroizeB2 s))) :=
  if_pos (h.imp_left fun h0 => h0 ▸ Nat.one_pos)

theorem execB2Init_of_keylen {s : State} (hmin : 1 ≤ s.outlen.toNat) (hmax : s.outlen.toNat ≤ 64)
    (h : 64 < s.klen.toNat) :
    exec .b2Init s = .next (complete 0x30#8 .eKeylen (clearKey (zeroizeB2 s))) :=
  (if_neg (not_or.2 ⟨Nat.not_lt.2 hmin, Nat.not_lt.2 hmax⟩)).trans (if_pos h)

/-- `B2_INIT` past its checks. -/
theorem execB2Init_of_lengths {s : State} (hmin : 1 ≤ s.outlen.toNat) (hmax : s.outlen.toNat ≤ 64)
    (hkey : s.klen.toNat ≤ 64) :
    exec .b2Init s = .next { s with
      code := .ok, lastop := 0x30#8, key := Vector.replicate 16 0, digest := Vector.replicate 16 0
      b2 := b2Load s.outlen.toNat (bytesOf s.klen.toNat (keyB s)) } := by
  refine (if_neg (not_or.2 ⟨Nat.not_lt.2 hmin, Nat.not_lt.2 hmax⟩)).trans ((if_neg (Nat.not_lt.2 hkey)).trans ?_)
  rw [endWith_eq, complete_ok]
  rfl

/-- The chaining value of R250 with the parameter word of R253, from the registers `OUTLEN` and `KLEN`. -/
theorem b2Start_registers (ol kl : Byte) :
    b2Start ol.toNat kl.toNat =
      #v[0x6A09E667F3BCC908#64 ^^^ 0x01010000#64 ^^^ (kl.zeroExtend 64 <<< 8) ^^^ ol.zeroExtend 64,
        0xBB67AE8584CAA73B#64, 0x3C6EF372FE94F82B#64, 0xA54FF53A5F1D36F1#64, 0x510E527FADE682D1#64,
        0x9B05688C2B3E6C1F#64, 0x1F83D9ABFB41BD6B#64, 0x5BE0CD19137E2179#64] := by
  rw [b2Start, paramWord, BitVec.ofNat_toNat, BitVec.ofNat_toNat, BitVec.xor_assoc, BitVec.xor_assoc,
    BitVec.xor_assoc]
  rfl

theorem padBlock_bytesOf (n : Nat) (f : Nat → Byte) :
    padBlock (bytesOf n f) = Vector.ofFn fun j : Fin 128 => if j.val < n then f j.val else 0#8 := by
  refine congrArg Vector.ofFn (funext fun j => ?_)
  by_cases hj : j.val < n
  · rw [if_pos hj, bytesOf_getD_of_lt f hj]
  · rw [if_neg hj, List.getD_eq_default _ _ (by simpa using hj)]
    rfl

theorem padBlock_nil : padBlock [] = Vector.replicate 128 0 := Vector.ext fun i hi => by simp [padBlock]

/-- A padded block: the bytes, then the padding. -/
theorem padBlock_toList {bs : List Byte} (h : bs.length ≤ 128) :
    (padBlock bs).toList = bs ++ List.replicate (128 - bs.length) 0#8 := by
  refine List.ext_getElem (by simp; omega) fun i hi _ => ?_
  simp only [padBlock, Vector.getElem_toList, Vector.getElem_ofFn, List.getElem_append]
  split
  · next hlt => exact List.getD_eq_getElem _ _ hlt
  · next hge =>
    rw [List.getD_eq_default _ _ (Nat.not_lt.1 hge), List.getElem_replicate]
    rfl

/-- The context of a new hasher: its buffer is the zero-padded key, whether there is one or not. -/
theorem b2Load_eq (ol : Nat) (key : List Byte) :
    b2Load ol key = {
      valid := true, done := false, t := 0, outlen := ol, h := b2Start ol key.length, buf := padBlock key
      fill := if key.length = 0 then 0 else 128 } := by
  by_cases hkey : 0 < key.length
  · rw [b2Load, if_pos hkey, if_pos hkey, if_neg hkey.ne']
  · obtain rfl : key = [] := List.length_eq_zero_iff.1 (Nat.eq_zero_of_not_pos hkey)
    rw [padBlock_nil]
    rfl

theorem b2Load_fill_le (ol : Nat) (key : List Byte) : (b2Load ol key).fill ≤ 128 := by
  rw [b2Load_eq]
  dsimp only
  split <;> decide

/-- What waits in the buffer of a new hasher is the key block of R255, if there is a key. -/
theorem buffered_b2Load (ol : Nat) {key : List Byte} (h : key.length ≤ 128) (m : List Byte) :
    buffered (b2Load ol key) ++ m = b2Data key m := by
  have hblock : (key ++ List.replicate (128 - key.length) 0#8).length = 128 := by simp [h]
  rw [b2Data, buffered, b2Load_eq, padBlock_toList h]
  by_cases hkey : 0 < key.length
  · rw [if_pos hkey, if_neg hkey.ne', List.take_of_length_le hblock.le]
  · rw [if_neg hkey, if_pos (Nat.eq_zero_of_not_pos hkey), List.take_zero]

/-! ### The obligations -/

/-- Settles O46: every chunk takes the context of the bytes so far to that of the bytes with it, the key block first; the
final compression makes it the hash of the whole message. -/
theorem blake2bOfAnyChunking : Obligations.Blake2bOfAnyChunking := by
  unfold Obligations.Blake2bOfAnyChunking
  intro s cs hmin hmax hkey hcs
  have hkeyLength : (bytesOf s.klen.toNat (keyB s)).length ≤ 128 := by rw [bytesOf_length]; omega
  obtain ⟨t, hinit, hload⟩ :
      ∃ t, exec .b2Init s = .next t ∧ t.b2 = b2Load s.outlen.toNat (bytesOf s.klen.toNat (keyB s)) :=
    ⟨_, execB2Init_of_lengths hmin hmax hkey, rfl⟩
  obtain ⟨u, hu, hb2⟩ := execB2Update_chunks (congrArg B2.valid hload) (by rw [hload]; exact b2Load_fill_le ..) hcs
  rw [hload, buffered_b2Load _ hkeyLength] at hb2
  have hfinish := b2Finish_b2After (c := b2Load s.outlen.toNat (bytesOf s.klen.toNat (keyB s))) rfl rfl
    (b2Data (bytesOf s.klen.toNat (keyB s)) cs.flatten)
  have houtlen : u.b2.outlen = s.outlen.toNat := congrArg B2.outlen hb2
  refine ⟨t, u, _, hinit, hu, execB2Final_eq (congrArg B2.valid hb2), rfl, bytesOf_congr fun j hj => ?_,
    fun j hj h64 => ?_⟩
  · refine (arrayByte_packWords _ (by omega)).trans ?_
    rw [hb2, hfinish]
    rfl
  · exact (arrayByte_packWords _ (by omega)).trans (digestByte_of_ge (houtlen.trans_le hj))

/-- Settles O44: the loop runs from the context of the buffered bytes; the new bytes fit the buffer or overflow it once. -/
theorem b2UpdateAbsorbsBytes : Obligations.B2UpdateAbsorbsBytes := by
  unfold Obligations.B2UpdateAbsorbsBytes
  refine ⟨rfl, fun s => ⟨fun hvalid hfits => ?_, fun hvalid hlen hfill hover => ?_, execB2Update_of_invalid,
    execB2Update_of_long⟩⟩
  · rw [execB2Update_eq (b2After_buffered (by omega)).symm hvalid (by omega), b2After_append_of_fits (bufB s) hfits]
  · rw [execB2Update_eq (b2After_buffered hfill).symm hvalid hlen,
      b2After_append_of_overflow (bufB s) hlen hfill hover]

/-- Settles O45: the digest is written from the bytes of one final compression of the buffered bytes. -/
theorem b2FinalWritesDigest : Obligations.B2FinalWritesDigest := by
  unfold Obligations.B2FinalWritesDigest
  refine ⟨rfl, fun s h hh => ⟨fun hvalid _ _ => ?_, execB2Final_of_invalid⟩⟩
  rw [← padBlock_buffered, ← b2Finish_eq] at hh
  subst hh
  exact ⟨_, execB2Final_eq hvalid, rfl,
    fun j hj => (arrayByte_packWords _ j.isLt).trans (digestByte_of_lt hj j.isLt),
    fun j hj => (arrayByte_packWords _ j.isLt).trans (digestByte_of_ge hj)⟩

/-- Settles O43: the two checks of R250 in their order, after which the context is `b2Load` of the registers. -/
theorem b2InitBuildsHasher : Obligations.B2InitBuildsHasher := by
  unfold Obligations.B2InitBuildsHasher
  refine ⟨rfl, fun s => ⟨fun hmin hmax hkey => ?_, execB2Init_of_outlen, execB2Init_of_keylen⟩⟩
  have hctx := b2Load_eq s.outlen.toNat (bytesOf s.klen.toNat (keyB s))
  rw [bytesOf_length, padBlock_bytesOf, b2Start_registers] at hctx
  rw [execB2Init_of_lengths hmin hmax hkey, hctx]

end Sys2Proof.Proofs
end

section
/-! The system commands (46_system.md): the host's view of `RESULT` after a completion, the word and the meaning
of a legal `ZEROIZE`, and the reset state that the full mask leaves (R287). -/

namespace Sys2Proof.Proofs

open Sys2Proof.Machine

/-! ### `RESULT` after a completion (R23, R290) -/

@[simp] theorem regRead_result_complete (opc : Byte) (c : Code) (s : State) :
    regRead (complete opc c s) .result = (0#16 ++ opc) ++ codeByte c := rfl

/-! ### The command `ZEROIZE` (R281) -/

theorem wellFormed_zeroize_iff (arg : Byte) :
    (Instr.zeroize arg).wellFormed = true ↔ arg.extractLsb' 5 3 = 0#3 := beq_iff_eq

/-- The word of a mask: the opcode in the low byte, the mask one byte up (R101). -/
theorem encode_zeroize (arg : Byte) : encode (.zeroize arg) = 0x00000001#32 + (arg.zeroExtend 32 <<< 8) := by
  have hword : (encode (.zeroize arg)).toNat = arg.toNat * 2 ^ 8 + 1 := by
    rw [encode, argOf, opcodeOf, toNat_append_eq_add, toNat_append_eq_add, BitVec.toNat_ofNat, Nat.zero_mod,
      Nat.zero_mul, Nat.zero_add]
    rfl
  refine BitVec.eq_of_toNat_eq (hword.trans ?_)
  bv_omega

theorem execZeroize_of_wellFormed {arg : Byte} (h : (Instr.zeroize arg).wellFormed = true) (s : State) :
    exec (.zeroize arg) s = .next (complete 0x01#8 .ok (zeroizeMask arg s)) :=
  if_neg (ne_false_of_eq_true h)

/-- The full mask selects every field but the record of the commands so far and the model's own (R287). -/
theorem zeroizeMask_all (s : State) :
    zeroizeMask 0x1F#8 s = { State.reset with
      code := s.code, lastop := s.lastop, sticky := s.sticky, pending := s.pending, response := s.response } := by
  rw [zeroizeMask_eq]
  rfl

/-! ### The obligations -/

/-- Settles O22: a legal mask passes the check, and `zeroizeMask_eq` gives the fields that its bits select. -/
theorem zeroizeDestroysSelected : Obligations.ZeroizeDestroysSelected := by
  unfold Obligations.ZeroizeDestroysSelected
  intro arg s hmask
  have hlegal := (wellFormed_zeroize_iff arg).2 hmask
  refine ⟨encode_zeroize arg ▸ decode_encode hlegal, ?_⟩
  rw [execZeroize_of_wellFormed hlegal, complete_ok, zeroizeMask_eq]
  rfl

/-- Settles O21: the word is the encoding of `NOP`, which is a completion with `OK` and no more. -/
theorem nopCompletes : Obligations.NopCompletes := by
  unfold Obligations.NopCompletes
  exact ⟨decode_encode (i := .nop) rfl, fun s =>
    ⟨complete 0x00#8 .ok s, rfl, complete_ok 0x00#8 s, regRead_result_complete 0x00#8 .ok s⟩⟩

/-- Settles O23: the full mask is legal and `zeroizeMask_all` gives what it leaves. -/
theorem zeroizeAllLeavesResetState : Obligations.ZeroizeAllLeavesResetState := by
  unfold Obligations.ZeroizeAllLeavesResetState
  intro s
  refine ⟨_, execZeroize_of_wellFormed rfl s, regRead_result_complete 0x01#8 .ok _, ?_⟩
  rw [complete_ok, zeroizeMask_all]
  rfl

end Sys2Proof.Proofs
end

section
/-! The invariant of the state (60_exceptions.md R302) and reset (70_reset_and_hazards.md R330, R331). The invariant is
about the engines only, so of all a step can be (`StepKind`) just a command can break it; and a command's end is a
state that meets it with one context, and what is tied to that context, replaced. -/

namespace Sys2Proof.Proofs

open Sys2Proof.Machine

/-! ### The invariant is about the engines (R302) -/

theorem inv_of_engines {s t : State} (h : s.Inv) (heq : engines t = engines s) : t.Inv := by
  simp only [engines, Prod.mk.injEq] at heq
  obtain ⟨hcc, hpl, hb2, hxs, hauth, htag, hdigest⟩ := heq
  exact {
    cc := hcc ▸ h.cc
    pl := hpl ▸ h.pl
    b2 := hb2 ▸ h.b2
    xs := hxs ▸ h.xs
    auth := hauth ▸ h.auth
    gate_valid := hcc ▸ h.gate_valid
    link_valid := by rw [hcc, hpl]; exact h.link_valid
    tag_zero := by rw [hpl, htag]; exact h.tag_zero
    digest_zero := by rw [hb2, hdigest]; exact h.digest_zero }

theorem inv_ite {p : Prop} [Decidable p] {s t : State} (hs : s.Inv) (ht : t.Inv) : (if p then s else t).Inv := by
  by_cases h : p
  · rwa [if_pos h]
  · rwa [if_neg h]

/-! ### The contexts (10_state.md R43 to R46) -/

theorem ccInv_zero : CC.zero.Inv := ⟨Nat.zero_le 64, fun _ => rfl⟩

theorem ccInv_of_valid {c : CC} (hvalid : c.valid = true) (havail : c.avail ≤ 64) : c.Inv :=
  ⟨havail, fun h => absurd hvalid (ne_true_of_eq_false h)⟩

/-- An open gate suits every context: one that is all zero has it open already. -/
theorem ccInv_openGate {c : CC} (h : c.Inv) : CC.Inv { c with gate := false } :=
  ⟨h.avail_le, fun hvalid => congrArg (fun c : CC => { c with gate := false }) (h.invalid_zero hvalid)⟩

theorem valid_of_gate {c : CC} (h : c.Inv) (hgate : c.gate = true) : c.valid = true := by
  by_contra hvalid
  rw [h.invalid_zero (eq_false_of_ne_true hvalid)] at hgate
  cases hgate

theorem xsInv_zero : XS.zero.Inv := ⟨Nat.zero_le 64, fun _ => rfl⟩

theorem xsInv_of_valid {x : XS} (hvalid : x.valid = true) (havail : x.avail ≤ 64) : x.Inv :=
  ⟨havail, fun h => absurd hvalid (ne_true_of_eq_false h)⟩

theorem polyP_pos : 0 < Config.polyP := by decide

/-- A context without a key, whatever it says of a finished tag and of the link (R44). -/
theorem plInv_unkeyed (done link : Bool) : PL.Inv { PL.zero with done := done, link := link } where
  not_both h := absurd h.1 Bool.false_ne_true
  r_lt := Nat.two_pow_pos 124
  h_lt := polyP_pos
  lfill_le := Nat.zero_le 15
  invalid_zero _ := rfl

/-- The link is tied to the ChaCha20 context only (R302). -/
theorem plInv_setLink {p : PL} (h : p.Inv) (link : Bool) : PL.Inv { p with link := link } where
  not_both := h.not_both
  r_lt := h.r_lt
  h_lt := h.h_lt
  lfill_le := h.lfill_le
  invalid_zero hvalid := congrArg (fun p : PL => { p with link := link }) (h.invalid_zero hvalid)

/-- The clamp clears the four highest bits (R183). -/
theorem clamp_lt (v : BitVec 128) : (clamp v).toNat < 2 ^ 124 := by
  rw [clamp, BitVec.toNat_and]
  exact Nat.and_le_right.trans_lt (by decide)

theorem plInv_polyLoad (k : List Byte) : (polyLoad k).Inv where
  not_both h := absurd h.2 Bool.false_ne_true
  r_lt := clamp_lt _
  h_lt := polyP_pos
  lfill_le := Nat.zero_le 15
  invalid_zero h := nomatch h

/-- A keyed context keeps its invariant byte by byte: a stored byte is not the block's last, and a full block leaves a
residue and an empty buffer (R181, R186). -/
theorem plInv_polyAbsorb {p : PL} (h : p.Inv) (hvalid : p.valid = true) (b : Byte) : (polyAbsorb b p).Inv := by
  have hkeyed : (polyAbsorb b p).valid ≠ false := by rw [polyAbsorb_valid, hvalid]; decide
  have hbounds : (polyAbsorb b p).h < Config.polyP ∧ (polyAbsorb b p).lfill ≤ 15 := by
    have hfill := h.lfill_le
    rcases polyAbsorb_cases b p with ⟨hne, habsorb⟩ | ⟨-, habsorb⟩ <;> rw [habsorb]
    · exact ⟨h.h_lt, by rw [polyStore_lfill]; omega⟩
    · exact ⟨Nat.mod_lt _ polyP_pos, Nat.zero_le 15⟩
  obtain ⟨hh, hlfill⟩ := hbounds
  exact {
    not_both := by rw [polyAbsorb_valid, polyAbsorb_done]; exact h.not_both
    r_lt := by rw [polyAbsorb_r]; exact h.r_lt
    h_lt := hh
    lfill_le := hlfill
    invalid_zero := fun hinvalid => absurd hinvalid hkeyed }

/-- A context without a running hash, whatever it says of a finished digest (R45). -/
theorem b2Inv_idle (done : Bool) : B2.Inv { B2.zero with done := done } where
  not_both h := absurd h.1 Bool.false_ne_true
  fill_le := Nat.zero_le 128
  outlen_le := Nat.zero_le 64
  outlen_pos h := nomatch h
  t_mod h := nomatch h
  fill_zero h := nomatch h
  invalid_zero _ := rfl

theorem b2Inv_b2Load {ol : Nat} (hmin : 1 ≤ ol) (hmax : ol ≤ 64) (key : List Byte) : (b2Load ol key).Inv where
  not_both h := absurd h.2 Bool.false_ne_true
  fill_le := b2Load_fill_le ol key
  outlen_le := hmax
  outlen_pos _ := hmin
  t_mod _ := rfl
  fill_zero _ _ := rfl
  invalid_zero h := nomatch h

/-- Making room for a byte: the counter advances by a whole block, or nothing changes (R251, R255). -/
theorem b2Flush_fill_t {c : B2} (hfill : c.fill ≤ 128) (ht : c.t.toNat % 128 = 0) :
    (b2Flush c).fill < 128 ∧ (b2Flush c).t.toNat % 128 = 0 := by
  by_cases hfull : c.fill = 128
  · rw [b2Flush_of_full hfull]
    refine ⟨Nat.succ_pos 127, ?_⟩
    rw [BitVec.toNat_add, BitVec.toNat_ofNat]
    omega
  · rw [b2Flush_of_room hfull]
    exact ⟨by omega, ht⟩

theorem b2Inv_b2Absorb {c : B2} (h : c.Inv) (hvalid : c.valid = true) (b : Byte) : (b2Absorb b c).Inv := by
  obtain ⟨hroom, ht⟩ := b2Flush_fill_t h.fill_le (h.t_mod hvalid)
  have hrunning : (b2Absorb b c).valid ≠ false := by rw [b2Absorb_valid, hvalid]; decide
  exact {
    not_both := by rw [b2Absorb_valid, b2Absorb_done]; exact h.not_both
    fill_le := hroom
    outlen_le := by rw [b2Absorb_outlen]; exact h.outlen_le
    outlen_pos := by rw [b2Absorb_valid, b2Absorb_outlen]; exact h.outlen_pos
    t_mod := fun _ => ht
    fill_zero := fun _ hempty => absurd hempty (Nat.succ_ne_zero _)
    invalid_zero := fun hinvalid => absurd hinvalid hrunning }

/-! ### Replacing a context and what is tied to it (R38, R39, R47, R302) -/

section
variable {s : State}

/-- A linked tag needs the ChaCha20 context valid. -/
theorem inv_setCC {c : CC} (h : s.Inv) (hc : c.Inv) (hlink : s.pl.link = true → c.valid = true) :
    State.Inv { s with cc := c } :=
  { h with cc := hc, gate_valid := valid_of_gate hc, link_valid := hlink }

theorem inv_setPL {p : PL} {tag : Vector Word 4} {auth : Auth} (h : s.Inv) (hp : p.Inv)
    (hlink : p.link = true → s.cc.valid = true) (htag : p.done = false → tag = Vector.replicate 4 0)
    (hauth : ¬(auth.ok = true ∧ auth.fail = true)) : State.Inv { s with pl := p, tag := tag, auth := auth } :=
  { h with pl := hp, auth := hauth, link_valid := hlink, tag_zero := htag }

theorem inv_setB2 {b : B2} {digest : Vector Word 16} (h : s.Inv) (hb : b.Inv)
    (hdigest : b.done = false → digest = Vector.replicate 16 0) : State.Inv { s with b2 := b, digest := digest } :=
  { h with b2 := hb, digest_zero := hdigest }

theorem inv_setXS {x : XS} (h : s.Inv) (hx : x.Inv) : State.Inv { s with xs := x } := { h with xs := hx }

theorem inv_zeroizeCC (h : s.Inv) : (zeroizeCC s).Inv :=
  inv_setCC
    (inv_setPL h (plInv_setLink h.pl false) (fun hlink => nomatch hlink) h.tag_zero h.auth) ccInv_zero
    (fun hlink => nomatch hlink)

theorem inv_zeroizePL (h : s.Inv) : (zeroizePL s).Inv :=
  inv_setPL h (plInv_unkeyed false false) (fun hlink => nomatch hlink) (fun _ => rfl) (fun hboth => nomatch hboth.1)

theorem inv_zeroizeB2 (h : s.Inv) : (zeroizeB2 s).Inv := inv_setB2 h (b2Inv_idle false) (fun _ => rfl)

theorem inv_zeroizeXS (h : s.Inv) : (zeroizeXS s).Inv := inv_setXS h xsInv_zero

theorem inv_zeroizeMask (arg : Byte) (h : s.Inv) : (zeroizeMask arg s).Inv := by
  have hcc := inv_ite (p := argMaskBit arg 0) (inv_zeroizeCC h) h
  have hpl := inv_ite (p := argMaskBit arg 1) (inv_zeroizePL hcc) hcc
  have hb2 := inv_ite (p := argMaskBit arg 2) (inv_zeroizeB2 hpl) hpl
  have hxs := inv_ite (p := argMaskBit arg 3) (inv_zeroizeXS hb2) hb2
  exact inv_ite (inv_of_engines hxs rfl) hxs

/-! ### The loops of the data commands (R161, R181, R231, R251) -/

/-- Passes that keep the invariant and the engine valid, from a state where it is. -/
theorem inv_forUpTo {valid : State → Bool} {body : Nat → State → State}
    (hbody : ∀ i u, u.Inv → valid u = true → (body i u).Inv ∧ valid (body i u) = true) (h : s.Inv)
    (hvalid : valid s = true) (n : Nat) : (forUpTo body n s).Inv :=
  (forUpTo_invariant (fun _ u => u.Inv ∧ valid u = true) body n s ⟨h, hvalid⟩
    fun i u _ ⟨hu, hv⟩ => hbody i u hu hv).1

theorem inv_ccXorByte (i : Nat) (h : s.Inv) (hvalid : s.cc.valid = true) :
    (ccXorByte i s).Inv ∧ (ccXorByte i s).cc.valid = true := by
  have hcc := ccXorByte_ccAfter i s
  have hafter : (ccAfter s.cc 1).valid = true := hvalid
  refine ⟨inv_of_engines (inv_setCC h (ccInv_of_valid hafter (availAfter_le h.cc.avail_le 1)) fun _ => hafter) ?_,
    hcc ▸ hafter⟩
  simp only [engines, hcc, ccXorByte_pl, ccXorByte_b2, ccXorByte_xs, ccXorByte_auth, ccXorByte_tag, ccXorByte_digest]

theorem inv_xsXorByte (i : Nat) (h : s.Inv) (hvalid : s.xs.valid = true) :
    (xsXorByte i s).Inv ∧ (xsXorByte i s).xs.valid = true := by
  have hxs := xsXorByte_xsAfter i s
  have hafter : (xsAfter s.xs 1).valid = true := hvalid
  refine ⟨inv_of_engines (inv_setXS h (xsInv_of_valid hafter (availAfter_le h.xs.avail_le 1))) ?_, hxs ▸ hafter⟩
  simp only [engines, hxs, xsXorByte_cc, xsXorByte_pl, xsXorByte_b2, xsXorByte_auth, xsXorByte_tag, xsXorByte_digest]

theorem inv_plUpdateByte (i : Nat) (h : s.Inv) (hvalid : s.pl.valid = true) :
    (plUpdateByte i s).Inv ∧ (plUpdateByte i s).pl.valid = true := by
  refine ⟨inv_setPL h (plInv_polyAbsorb h.pl hvalid _) ?_ ?_ h.auth, (polyAbsorb_valid ..).trans hvalid⟩
  · rw [polyAbsorb_link]; exact h.link_valid
  · rw [polyAbsorb_done]; exact h.tag_zero

theorem inv_b2UpdateByte (i : Nat) (h : s.Inv) (hvalid : s.b2.valid = true) :
    (b2UpdateByte i s).Inv ∧ (b2UpdateByte i s).b2.valid = true := by
  refine ⟨inv_setB2 h (b2Inv_b2Absorb h.b2 hvalid _) ?_, (b2Absorb_valid ..).trans hvalid⟩
  rw [b2Absorb_done]; exact h.digest_zero

/-! ### Every command keeps the invariant -/

/-- Completion writes no engine (R290). -/
theorem leavesInv_endWith {opc : Byte} {c : Code} {u : State} (h : u.Inv) : Leaves State.Inv (endWith opc c u) :=
  leaves_endWith (inv_of_engines h rfl)

/-- A check of R295, whose outcome the rest of the meaning knows. -/
theorem leavesInv_check {p : Prop} [Decidable p] {opc : Byte} {c : Code} {u : State}
    {rest : Host.Outcome State Fault Refusal} (h : u.Inv) (hrest : ¬p → Leaves State.Inv rest) :
    Leaves State.Inv (if p then endWith opc c u else rest) := by
  by_cases hp : p
  · rw [if_pos hp]; exact leavesInv_endWith h
  · rw [if_neg hp]; exact hrest hp

theorem execZeroize_inv (arg : Byte) (h : s.Inv) : Leaves State.Inv (execZeroize arg s) :=
  leavesInv_check h fun _ => leavesInv_endWith (inv_zeroizeMask arg h)

theorem execCcInit_inv (h : s.Inv) : Leaves State.Inv (execCcInit s) :=
  have hz : (clearKey (zeroizeCC s)).Inv := inv_of_engines (inv_zeroizeCC h) rfl
  leavesInv_check hz fun _ => leavesInv_check hz fun _ =>
    leavesInv_endWith (inv_setCC hz (ccInv_of_valid rfl (Nat.zero_le 64)) fun _ => rfl)

theorem execCcXor_inv (h : s.Inv) : Leaves State.Inv (execCcXor s) :=
  leavesInv_check h fun hvalid => leavesInv_check h fun _ => leavesInv_check h fun _ =>
    leavesInv_endWith
      (inv_forUpTo (valid := (·.cc.valid)) (fun i _ => inv_ccXorByte i) h (eq_true_of_ne_false hvalid) _)

/-- The two contexts are written together: the link that `CC_POLYKEY` sets stands on the context it has checked
(R210, R212). -/
theorem execCcPolykey_inv (arg : Byte) (h : s.Inv) : Leaves State.Inv (execCcPolykey arg s) :=
  leavesInv_check h fun _ => leavesInv_check h fun hne =>
    have hvalid : s.cc.valid = true := eq_true_of_ne_false hne
    have hz := inv_zeroizePL h
    have hlinked := inv_setPL hz (plInv_setLink (plInv_polyLoad _) true) (fun _ => hvalid) (fun _ => rfl) hz.auth
    leavesInv_endWith (inv_setCC hlinked (ccInv_of_valid hvalid (Nat.zero_le 64)) fun _ => hvalid)

theorem execPlInit_inv (h : s.Inv) : Leaves State.Inv (execPlInit s) :=
  have hz : (clearKey (zeroizePL s)).Inv := inv_of_engines (inv_zeroizePL h) rfl
  leavesInv_check hz fun _ => leavesInv_endWith
    (inv_setPL hz (plInv_polyLoad _) (fun hlink => nomatch hlink) (fun _ => rfl) hz.auth)

theorem execPlUpdate_inv (h : s.Inv) : Leaves State.Inv (execPlUpdate s) :=
  leavesInv_check h fun hvalid => leavesInv_check h fun _ =>
    leavesInv_endWith
      (inv_forUpTo (valid := (·.pl.valid)) (fun i _ => inv_plUpdateByte i) h (eq_true_of_ne_false hvalid) _)

theorem execPlFinish_inv (h : s.Inv) : Leaves State.Inv (execPlFinish s) :=
  have hz := inv_zeroizePL h
  leavesInv_check h fun _ => leavesInv_endWith
    (inv_setPL hz (plInv_unkeyed true s.pl.link) h.link_valid (fun hdone => nomatch hdone) hz.auth)

theorem execPlVerify_inv (h : s.Inv) : Leaves State.Inv (execPlVerify s) := by
  have hmatch := inv_setPL (auth := { ok := true, fail := false }) h h.pl h.link_valid h.tag_zero
    (fun hboth => nomatch hboth.2)
  have hmismatch := inv_setPL (auth := { ok := false, fail := true }) h (plInv_unkeyed false false)
    (fun hlink => nomatch hlink) (fun _ => rfl) (fun hboth => nomatch hboth.1)
  refine leavesInv_check h fun _ => leavesInv_check h fun _ => leaves_ite ?_ ?_
  · exact leavesInv_endWith (inv_ite (inv_setCC hmatch (ccInv_openGate h.cc) h.link_valid) hmatch)
  · exact leavesInv_endWith (inv_ite (inv_zeroizeCC hmismatch) hmismatch)

theorem execB2Init_inv (h : s.Inv) : Leaves State.Inv (execB2Init s) :=
  have hz : (clearKey (zeroizeB2 s)).Inv := inv_of_engines (inv_zeroizeB2 h) rfl
  leavesInv_check hz fun houtlen => leavesInv_check hz fun _ =>
    have ⟨hmin, hmax⟩ := not_or.1 houtlen
    leavesInv_endWith (inv_setB2 hz (b2Inv_b2Load (Nat.le_of_not_lt hmin) (Nat.le_of_not_lt hmax) _) fun _ => rfl)

theorem execB2Update_inv (h : s.Inv) : Leaves State.Inv (execB2Update s) :=
  leavesInv_check h fun hvalid => leavesInv_check h fun _ =>
    leavesInv_endWith
      (inv_forUpTo (valid := (·.b2.valid)) (fun i _ => inv_b2UpdateByte i) h (eq_true_of_ne_false hvalid) _)

theorem execB2Final_inv (h : s.Inv) : Leaves State.Inv (execB2Final s) :=
  leavesInv_check h fun _ =>
    leavesInv_endWith (inv_setB2 (inv_zeroizeB2 h) (b2Inv_idle true) fun hdone => nomatch hdone)

theorem execXsInit_inv (h : s.Inv) : Leaves State.Inv (execXsInit s) :=
  have hz : (clearKey (zeroizeXS s)).Inv := inv_of_engines (inv_zeroizeXS h) rfl
  leavesInv_check hz fun _ => leavesInv_check hz fun _ =>
    leavesInv_endWith (inv_setXS hz (xsInv_of_valid rfl (Nat.zero_le 64)))

theorem execXsXor_inv (h : s.Inv) : Leaves State.Inv (execXsXor s) :=
  leavesInv_check h fun hvalid => leavesInv_check h fun _ =>
    leavesInv_endWith
      (inv_forUpTo (valid := (·.xs.valid)) (fun i _ => inv_xsXorByte i) h (eq_true_of_ne_false hvalid) _)

theorem exec_inv (i : Instr) (h : s.Inv) : Leaves State.Inv (exec i s) := by
  cases i with
  | nop => exact leavesInv_endWith h
  | zeroize arg => exact execZeroize_inv arg h
  | ccInit => exact execCcInit_inv h
  | ccXor => exact execCcXor_inv h
  | ccPolykey arg => exact execCcPolykey_inv arg h
  | plInit => exact execPlInit_inv h
  | plUpdate => exact execPlUpdate_inv h
  | plFinish => exact execPlFinish_inv h
  | plVerify => exact execPlVerify_inv h
  | b2Init => exact execB2Init_inv h
  | b2Update => exact execB2Update_inv h
  | b2Final => exact execB2Final_inv h
  | xsInit => exact execXsInit_inv h
  | xsXor => exact execXsXor_inv h

end

/-! ### The obligations -/

/-- Settles O54: every context is the zero one, and no flag is set. -/
theorem invariantAtReset : Obligations.InvariantAtReset := by
  unfold Obligations.InvariantAtReset
  exact {
    cc := ccInv_zero
    pl := plInv_unkeyed false false
    b2 := b2Inv_idle false
    xs := xsInv_zero
    auth := fun hboth => nomatch hboth.1
    gate_valid := valid_of_gate ccInv_zero
    link_valid := fun hlink => nomatch hlink
    tag_zero := fun _ => rfl
    digest_zero := fun _ => rfl }

/-- Settles O55: the engines of the next state are those before the step, those after reset, or what a command makes
of them. -/
theorem stepKeepsInvariant : Obligations.StepKeepsInvariant := by
  unfold Obligations.StepKeepsInvariant
  intro s t h hstep
  cases step_kind hstep with
  | idle _ hsame => rwa [hsame]
  | bus _ _ _ _ hengines => exact inv_of_engines h hengines
  | reset rest _ hreset => exact inv_of_engines invariantAtReset (hreset ▸ rfl)
  | command w i rest _ _ hexec =>
    exact exec_inv i (s := respond .written (takeEvent rest s)) (inv_of_engines h rfl) t hexec

/-- Settles O53: the event is taken from the list, and the device's whole state replaced. -/
theorem resetEventResets : Obligations.ResetEventResets := by
  unfold Obligations.ResetEventResets
  intro s rest hpending
  exact step_of_pending hpending

end Sys2Proof.Proofs
end

section
/-! Completion and errors (60_exceptions.md R290 to R295) and what a read shows (R304). A command is a chain of checks,
each of which ends by `complete`; so what is claimed of every command is said once of a check and once of an end, and
follows the chain. A read is a function of the state without its secrets. -/

namespace Sys2Proof.Proofs

open Sys2Proof.Machine

/-! ### The class bit of a completion (R290) -/

theorem codeSticky_useErr (c : Code) :
    (codeSticky c).getLsbD 0 = decide (codeByte c ∈ [0x01#8, 0x02#8, 0x03#8, 0x04#8]) := by
  cases c <;> decide

theorem codeSticky_cfgErr (c : Code) :
    (codeSticky c).getLsbD 1 = decide (codeByte c ∈ [0x10#8, 0x11#8, 0x12#8, 0x13#8]) := by
  cases c <;> decide

theorem codeSticky_authErr (c : Code) : (codeSticky c).getLsbD 2 = decide (codeByte c = 0x20#8) := by
  cases c <;> decide

/-- A wrap bit is bit 4 or 5, and it comes with `OK`, which has no class bit. -/
theorem CommandSticky.low {s t : State} {d : Except Reject Instr} (h : CommandSticky s t d) {k : Nat} (hk : k < 4) :
    t.sticky.getLsbD k = (s.sticky.getLsbD k || (codeSticky t.code).getLsbD k) := by
  cases h with
  | code _ hsticky => rw [hsticky, BitVec.getLsbD_or]
  | ccWrap hcode _ hsticky | xsWrap hcode _ hsticky =>
    rw [hsticky, hcode, BitVec.getLsbD_or]
    congr 1
    interval_cases k <;> rfl

theorem response_of_exec {i : Instr} {s t : State} (h : exec i s = .next t) : t.response = s.response :=
  exec_keeps (p := State.response) (fun _ => by cases i <;> rfl) h

/-! ### The code a chain of checks ends with (R295) -/

section
variable {s : State}

theorem code_endWith {opc : Byte} {c : Code} {u : State} : Leaves (·.code = c) (endWith opc c u) := leaves_endWith rfl

/-- A check `p`, which the claim may spell `q`, passes its code or that of the rest of the chain. -/
theorem code_ite {p q : Prop} [Decidable p] [Decidable q] {c d : Code} {a b : Host.Outcome State Fault Refusal}
    (hpq : p ↔ q) (ha : Leaves (·.code = c) a) (hb : Leaves (·.code = d) b) :
    Leaves (·.code = if q then c else d) (if p then a else b) := by
  by_cases h : p
  · rwa [if_pos h, if_pos (hpq.1 h)]
  · rwa [if_neg h, if_neg fun hq => h (hpq.2 hq)]

theorem code_of_execZeroize {arg : Byte} (harg : zeroizeArgLegal arg = true) :
    Leaves (·.code = .ok) (execZeroize arg s) := by
  rw [execZeroize, if_neg (ne_false_of_eq_true harg)]
  exact code_endWith

theorem code_of_execCcInit : Leaves
    (·.code = if s.klen.toNat ≠ 32 then .eKeylen else if s.nlen.toNat ≠ 12 then .eNoncelen else .ok)
    (execCcInit s) :=
  code_ite .rfl code_endWith (code_ite .rfl code_endWith code_endWith)

theorem code_of_execXsInit : Leaves
    (·.code = if s.klen.toNat ≠ 32 then .eKeylen else if s.nlen.toNat ≠ 24 then .eNoncelen else .ok)
    (execXsInit s) :=
  code_ite .rfl code_endWith (code_ite .rfl code_endWith code_endWith)

theorem code_of_execPlInit : Leaves (·.code = if s.klen.toNat ≠ 32 then .eKeylen else .ok) (execPlInit s) :=
  code_ite .rfl code_endWith code_endWith

theorem code_of_execB2Init : Leaves
    (·.code = if s.outlen.toNat = 0 ∨ 64 < s.outlen.toNat then .eOutlen
      else if 64 < s.klen.toNat then .eKeylen else .ok)
    (execB2Init s) :=
  code_ite (or_congr_left Nat.lt_one_iff) code_endWith (code_ite .rfl code_endWith code_endWith)

theorem code_of_execCcXor : Leaves
    (·.code = if s.cc.valid = false then .eState else if s.cc.gate = true then .eGated
      else if 128 < s.len.toNat then .eLen else .ok) (execCcXor s) :=
  code_ite .rfl code_endWith (code_ite .rfl code_endWith (code_ite .rfl code_endWith code_endWith))

theorem code_of_execXsXor : Leaves
    (·.code = if s.xs.valid = false then .eState else if 128 < s.len.toNat then .eLen else .ok) (execXsXor s) :=
  code_ite .rfl code_endWith (code_ite .rfl code_endWith code_endWith)

theorem code_of_execPlUpdate : Leaves
    (·.code = if s.pl.valid = false then .eState else if 128 < s.len.toNat then .eLen else .ok) (execPlUpdate s) :=
  code_ite .rfl code_endWith (code_ite .rfl code_endWith code_endWith)

theorem code_of_execB2Update : Leaves
    (·.code = if s.b2.valid = false then .eState else if 128 < s.len.toNat then .eLen else .ok) (execB2Update s) :=
  code_ite .rfl code_endWith (code_ite .rfl code_endWith code_endWith)

theorem code_of_execPlFinish : Leaves (·.code = if s.pl.valid = false then .eState else .ok) (execPlFinish s) :=
  code_ite .rfl code_endWith code_endWith

theorem code_of_execB2Final : Leaves (·.code = if s.b2.valid = false then .eState else .ok) (execB2Final s) :=
  code_ite .rfl code_endWith code_endWith

theorem code_of_execCcPolykey {arg : Byte} (harg : polykeyArgLegal arg = true) :
    Leaves (·.code = if s.cc.valid = false then .eState else .ok) (execCcPolykey arg s) := by
  rw [execCcPolykey, if_neg (ne_false_of_eq_true harg)]
  exact code_ite .rfl code_endWith code_endWith

/-- The last check is the comparison itself (R191, R192). -/
theorem code_of_execPlVerify : Leaves
    (·.code = if s.pl.done = false then .eState else if s.xtlen.toNat ≠ 16 then .eTaglen
      else if s.tag = s.xtag then .ok else .eAuth) (execPlVerify s) :=
  code_ite .rfl code_endWith (code_ite .rfl code_endWith
    (code_ite (tagDiff_eq_zero_iff s.tag s.xtag) code_endWith code_endWith))

end

/-! ### What an error leaves behind (R294) -/

/-- If the command has failed, it is `u` it has completed over, with the sticky bit `flag` set and nothing else done. -/
def FailsOver (opc : Byte) (flag : BitVec 6) (u t : State) : Prop :=
  t.code ≠ .ok → t = { u with code := t.code, lastop := opc, sticky := u.sticky ||| flag }

section
variable {opc : Byte} {flag : BitVec 6} {u : State}

theorem failsOver_error {c : Code} (hflag : codeSticky c = flag) : Leaves (FailsOver opc flag u) (endWith opc c u) :=
  leaves_endWith fun _ => hflag ▸ rfl

theorem failsOver_ok {v : State} : Leaves (FailsOver opc flag u) (endWith opc .ok v) :=
  leaves_endWith fun hfailed => absurd rfl hfailed

/-- The meaning of a command with one check before its effect. -/
theorem failsOver_check {p : Prop} [Decidable p] {c : Code} {rest : Host.Outcome State Fault Refusal}
    (hflag : codeSticky c = flag) (hrest : Leaves (FailsOver opc flag u) rest) :
    Leaves (FailsOver opc flag u) (if p then endWith opc c u else rest) :=
  leaves_ite (failsOver_error hflag) hrest

end

/-- A data or finish command fails before it touches anything: each of its checks is a use error. -/
theorem dataCommand_failsOver {i : Instr}
    (hi : i ∈ [Instr.ccXor, Instr.xsXor, Instr.plUpdate, Instr.plFinish, Instr.b2Update, Instr.b2Final]) (s : State) :
    Leaves (FailsOver (opcodeOf i) stickyUseErr s) (exec i s) := by
  simp only [List.mem_cons, List.not_mem_nil, or_false] at hi
  obtain rfl | rfl | rfl | rfl | rfl | rfl := hi
  · exact failsOver_check rfl (failsOver_check rfl (failsOver_check rfl failsOver_ok))
  · exact failsOver_check rfl (failsOver_check rfl failsOver_ok)
  · exact failsOver_check rfl (failsOver_check rfl failsOver_ok)
  · exact failsOver_check rfl failsOver_ok
  · exact failsOver_check rfl (failsOver_check rfl failsOver_ok)
  · exact failsOver_check rfl failsOver_ok

theorem execCcPolykey_failsOver (arg : Byte) (s : State) :
    Leaves (FailsOver 0x13#8 stickyUseErr s) (execCcPolykey arg s) :=
  failsOver_check rfl (failsOver_check rfl failsOver_ok)

/-- An initialisation has zeroised its context and consumed `KEY` before its first check, a configuration error. -/
theorem execCcInit_failsOver (s : State) :
    Leaves (FailsOver 0x10#8 stickyCfgErr (clearKey (zeroizeCC s))) (execCcInit s) :=
  failsOver_check rfl (failsOver_check rfl failsOver_ok)

theorem execPlInit_failsOver (s : State) :
    Leaves (FailsOver 0x20#8 stickyCfgErr (clearKey (zeroizePL s))) (execPlInit s) :=
  failsOver_check rfl failsOver_ok

theorem execB2Init_failsOver (s : State) :
    Leaves (FailsOver 0x30#8 stickyCfgErr (clearKey (zeroizeB2 s))) (execB2Init s) :=
  failsOver_check rfl (failsOver_check rfl failsOver_ok)

theorem execXsInit_failsOver (s : State) :
    Leaves (FailsOver 0x40#8 stickyCfgErr (clearKey (zeroizeXS s))) (execXsInit s) :=
  failsOver_check rfl (failsOver_check rfl failsOver_ok)

/-- What a failed `PL_VERIFY` has completed over, by the code it reports (R191, R294). -/
structure VerifyFailure (s t : State) : Prop where
  /-- nothing to compare -/
  eState : t.code = .eState → t = complete 0x23#8 .eState s
  /-- the wrong length -/
  eTaglen : t.code = .eTaglen → t = complete 0x23#8 .eTaglen s
  /-- a mismatch -/
  eAuth : t.code = .eAuth → t = complete 0x23#8 .eAuth { s with
    pl := PL.zero, tag := Vector.replicate 4 0, auth := { ok := false, fail := true }
    cc := if s.pl.link = true then CC.zero else s.cc }

theorem execPlVerify_failures (s : State) : Leaves (VerifyFailure s) (execPlVerify s) :=
  execPlVerify_leaves ⟨fun _ => rfl, (nomatch ·), (nomatch ·)⟩ ⟨(nomatch ·), fun _ => rfl, (nomatch ·)⟩
    ⟨(nomatch ·), (nomatch ·), (nomatch ·)⟩ ⟨(nomatch ·), (nomatch ·), fun _ => rfl⟩

/-! ### What a read can see (10_state.md R50, R304) -/

/-- The state with its secrets blanked: of the input states of the stream ciphers only the block counters are left,
which the host may read (R32, R33). -/
def blankSecrets (s : State) : State :=
  { s with
    key := Vector.replicate 16 0
    cc := { s.cc with st := (Vector.replicate 16 0#32).set 12 s.cc.st[12], blk := Vector.replicate 64 0 }
    xs := { s.xs with
      st := ((Vector.replicate 16 0#32).set 8 s.xs.st[8]).set 9 s.xs.st[9], blk := Vector.replicate 64 0 }
    pl := { s.pl with r := 0, pad := 0, h := 0, lbuf := Vector.replicate 16 0 }
    b2 := { s.b2 with h := Vector.replicate 8 0, t := 0, buf := Vector.replicate 128 0 } }

/-- No register shows a secret. -/
theorem regRead_blankSecrets (s : State) (r : Reg) : regRead (blankSecrets s) r = regRead s r := by
  cases r with
  | xsCtrl | xsCtrh => simp [regRead, blankSecrets]
  | _ => rfl

theorem response_memRead_blankSecrets (off size : Nat) (s : State) :
    (memRead off size (blankSecrets s)).response = (memRead off size s).response := by
  unfold memRead
  cases accessTarget off size with
  | none => rfl
  | some r => exact congrArg Response.data (regRead_blankSecrets s r)

/-- The answer to a read is a function of the state without its secrets. -/
theorem response_of_read {s t : State} {off size : Nat} {rest : List HostEvent} (h : step s = .next t)
    (hpending : s.pending = .read off size :: rest) :
    t.response = (memRead off size (blankSecrets (takeEvent rest s))).response := by
  cases (step_of_pending hpending).symm.trans h
  exact (response_memRead_blankSecrets ..).symm

/-! ### The obligations -/

/-- Settles O16: a command is a completion (`exec_completes`), and `exec_sticky` says what one does to `STICKY`. -/
theorem everyCommandCompletes : Obligations.EveryCommandCompletes := by
  unfold Obligations.EveryCommandCompletes
  intro i s
  obtain ⟨c, u, hexec⟩ := exec_completes i s
  have hlow {k : Nat} (hk : k < 4) := (exec_sticky hexec).low hk
  refine ⟨_, hexec, complete_lastop .., regRead_result_complete .., ?_, ?_, ?_, ?_, pending_of_exec hexec,
    response_of_exec hexec⟩
  · rw [hlow (by decide), codeSticky_useErr]
  · rw [hlow (by decide), codeSticky_cfgErr]
  · rw [hlow (by decide), codeSticky_authErr]
  · rw [hlow (by decide), codeSticky_high _ 3 (by decide), Bool.or_false]

/-- Settles O17: the bytes as the table has them, and each command's chain of checks. -/
theorem commandChecksInOrder : Obligations.CommandChecksInOrder := by
  unfold Obligations.CommandChecksInOrder
  refine ⟨⟨rfl, rfl, rfl, rfl, rfl, rfl, rfl, rfl, rfl, rfl⟩, fun s => ?_, fun s t => ?_⟩
  · rw [regRead, resultWord, BitVec.extractLsb'_append_eq_of_add_le (by decide), BitVec.extractLsb'_eq_self]
  · exact ⟨code_endWith t, fun _ harg => code_of_execZeroize harg t, code_of_execCcInit t, code_of_execXsInit t,
      code_of_execPlInit t, code_of_execB2Init t, code_of_execCcXor t, code_of_execXsXor t, code_of_execPlUpdate t,
      code_of_execB2Update t, code_of_execPlFinish t, code_of_execB2Final t,
      fun _ harg => code_of_execCcPolykey harg t, code_of_execPlVerify t⟩

/-- Settles O18: what a command has completed over when it fails: the state it found, or that state with the context and
`KEY` of an initialisation cleared, or what a mismatch destroys. -/
theorem errorsLeaveStateAsStated : Obligations.ErrorsLeaveStateAsStated := by
  unfold Obligations.ErrorsLeaveStateAsStated
  intro s t hfailed
  refine ⟨fun i hi h => dataCommand_failsOver hi s t h hfailed,
    fun arg h => execCcPolykey_failsOver arg s t h hfailed, fun w e hdecode h => ?_,
    fun h => (execPlVerify_failures s t h).eState, fun h => (execPlVerify_failures s t h).eTaglen,
    fun h => (execPlVerify_failures s t h).eAuth, fun h => execCcInit_failsOver s t h hfailed,
    fun h => execPlInit_failsOver s t h hfailed, fun h => execB2Init_failsOver s t h hfailed,
    fun h => execXsInit_failsOver s t h hfailed⟩
  cases (runCommand_of_decode_error hdecode s).symm.trans h
  rfl

/-- Settles O57: with their secrets blanked the two states are the same. -/
theorem readsRevealNoSecrets : Obligations.ReadsRevealNoSecrets := by
  unfold Obligations.ReadsRevealNoSecrets
  intro s key ccSt xsSt ccBlk xsBlk r pad h lbuf bh bt bbuf rest off size t u hcc hxs8 hxs9 hpending ht hu
  rw [response_of_read ht hpending, response_of_read hu hpending]
  simp only [blankSecrets, takeEvent, hcc, hxs8, hxs9]

end Sys2Proof.Proofs
end
